-- ==== Sys2Proof/Word.lean ====
section
/-! DEFINITION. The widths of the block (00_scope.md R12, R13, R15): u32 values, 64-bit command words, bytes of
a byte-wide transport, and the two levels a pin can be driven to. -/

namespace Sys2Proof

/-- `u32` (R12), the width W = 32 of every number the block stores (R8). -/
abbrev U32 := BitVec 32

/-- One 64-bit command word (R65). -/
abbrev CmdWord := BitVec 64

/-- One byte of a byte-wide transport (R49). -/
abbrev Byte := BitVec 8

/-- A pin level as it is driven (R15): LOW is the inactive level. -/
inductive Level where
  | low
  | high
  deriving DecidableEq, Repr, Inhabited

/-- `wrap32` of R13: every write to a u32 element writes this. -/
def wrap32 (n : Nat) : U32 := BitVec.ofNat 32 n

end Sys2Proof
end

