-- ==== Sys2Proof/Syntax.lean ====
section
/-! DEFINITION. The five commands (30_encoding.md R70), one constructor per row of spec/opcode_table.json. The
operands are the mathematical integers that R68 and R78 read out of a word; WellFormed says which of them a word
can carry. -/

namespace Sys2Proof

/-- A command of the block (R67, R68). -/
inductive Instr where
  /-- SET_SPEED (OPC 0x01, R97): `rpm`, an unsigned u32. -/
  | setSpeed (rpm : Nat)
  /-- MOVE (OPC 0x02, R101): `n`, an i32. -/
  | move (n : Int)
  /-- DEENERGIZE (OPC 0x03, R117): no operand. -/
  | deenergize
  /-- SEQ_STEP (OPC 0x04, R86): `i`, an unsigned u32 step index. -/
  | seqStep (i : Nat)
  /-- SEQ_CLEAR (OPC 0x05, R90): no operand. -/
  | seqClear
  deriving DecidableEq, Repr

end Sys2Proof
end

