-- ==== Sys2Proof/WellFormed.lean ====
section
/-! DEFINITION. Which commands an assembler accepts (30_encoding.md R75): the operand is in the range its
32-bit field can carry. -/

namespace Sys2Proof

/-- The operand ranges of R75: 0 to 2^32-1 for SET_SPEED and SEQ_STEP, -2^31 to 2^31-1 for MOVE. -/
def Instr.wf : Instr → Bool
  | .setSpeed rpm => decide (rpm < 2 ^ 32)
  | .move n => decide (-2 ^ 31 ≤ n) && decide (n < 2 ^ 31)
  | .deenergize => true
  | .seqStep i => decide (i < 2 ^ 32)
  | .seqClear => true

end Sys2Proof
end

