-- ==== Sys2Proof/Decode.lean ====
section
/-! DEFINITION. Decoding and encoding (30_encoding.md R65 to R80). `decode` is the block's own decoder, total on
all 2^64 words (R73); `decodeBytes` reads a word that a byte-wide transport carries, least significant byte first
(20_memory.md R49); `encode` is R77 and `assemble` the assembler of R75. -/

namespace Sys2Proof

/-- Why a word is ILLEGAL (R72). -/
inductive Illegal where
  /-- RSV is not 0 (R71). -/
  | reservedNotZero
  /-- The OPC is not in the table of R67. -/
  | unassignedOpcode (opc : Byte)
  /-- DEENERGIZE or SEQ_CLEAR with an OPERAND other than 0 (R69). -/
  | operandNotZero
  deriving DecidableEq, Repr

/-- Why the bytes of a transport give no command. -/
inductive TransportError where
  /-- Fewer than the eight bytes of a command word (R74); `have` is how many there are. -/
  | shortWord (count : Nat)
  /-- A whole word, and the block calls it ILLEGAL. -/
  | illegal (why : Illegal)
  deriving DecidableEq, Repr

/-- OPC, `word[7:0]` (R65). -/
def opcField (w : CmdWord) : Byte := w.extractLsb' 0 8

/-- RSV, `word[31:8]` (R65). -/
def rsvField (w : CmdWord) : BitVec 24 := w.extractLsb' 8 24

/-- OPERAND, `word[63:32]` (R65). -/
def operandField (w : CmdWord) : U32 := w.extractLsb' 32 32

/-- MOVE's operand (R68, R78): `op - (op[31] ? 2^32 : 0)`. -/
def signedOperand (op : U32) : Int := if op.msb then (op.toNat : Int) - 2 ^ 32 else op.toNat

/-- The OPC of each command (R67). -/
def Instr.opcode : Instr → Byte
  | .setSpeed _ => 0x01
  | .move _ => 0x02
  | .deenergize => 0x03
  | .seqStep _ => 0x04
  | .seqClear => 0x05

/-- The OPERAND field of each command (R68, R69, R77). -/
def Instr.operandBits : Instr → U32
  | .setSpeed rpm => BitVec.ofNat 32 rpm
  | .move n => BitVec.ofInt 32 n
  | .deenergize => 0
  | .seqStep i => BitVec.ofNat 32 i
  | .seqClear => 0

/-- The decoder of R78, in its order: RSV first, then the OPC, then the operand that must be 0. -/
def decode (w : CmdWord) : Except Illegal Instr :=
  let op := operandField w
  if rsvField w ≠ 0 then .error .reservedNotZero
  else if opcField w = 0x01 then .ok (.setSpeed op.toNat)
  else if opcField w = 0x02 then .ok (.move (signedOperand op))
  else if opcField w = 0x03 then (if op = 0 then .ok .deenergize else .error .operandNotZero)
  else if opcField w = 0x04 then .ok (.seqStep op.toNat)
  else if opcField w = 0x05 then (if op = 0 then .ok .seqClear else .error .operandNotZero)
  else .error (.unassignedOpcode (opcField w))

/-- The eight bytes of a command word on a byte-wide transport, least significant first (R49). -/
def wordBytes (w : CmdWord) : List Byte :=
  [w.extractLsb' 0 8, w.extractLsb' 8 8, w.extractLsb' 16 8, w.extractLsb' 24 8,
   w.extractLsb' 32 8, w.extractLsb' 40 8, w.extractLsb' 48 8, w.extractLsb' 56 8]

/-- Read one command from the bytes of a transport (R49, R74) and give back the bytes after it. -/
def decodeBytes : List Byte → Except TransportError (Instr × List Byte)
  | b0 :: b1 :: b2 :: b3 :: b4 :: b5 :: b6 :: b7 :: rest =>
    match decode (b7 ++ b6 ++ b5 ++ b4 ++ b3 ++ b2 ++ b1 ++ b0) with
    | .ok i => .ok (i, rest)
    | .error why => .error (.illegal why)
  | bs => .error (.shortWord bs.length)

/-- The encoder of R77: `{OPERAND, RSV = 0, OPC}`. -/
def encode (i : Instr) : CmdWord := i.operandBits ++ (0 : BitVec 24) ++ i.opcode

/-- The assembler of R75: it refuses an operand out of range. -/
def assemble (i : Instr) : Option CmdWord := if i.wf then some (encode i) else none

/-- The command word whose low `nbits` bits are those of `w`, every bit above them 0. -/
def tableWord (nbits w : Nat) : CmdWord := BitVec.ofNat 64 (w % 2 ^ nbits)

/-- What the decoder reads from an instruction whose bits, numbered as spec/opcode_table.json numbers them, are
`w`: the word is laid out in bytes as R49 says and read back. -/
def decodeTableWord (nbits w : Nat) : Option Instr :=
  match decodeBytes (wordBytes (tableWord nbits w)) with
  | .ok (i, _) => some i
  | .error _ => none

end Sys2Proof
end

