-- ==== Sys2Proof/Config.lean ====
section
/-! DEFINITION. What an implementation fixes (00_scope.md R8) and what the outside world draws freely
(20_memory.md R51, R55). The constants declared `opaque` have no value that Lean can see: whatever is proved
about the model holds for every value of them. -/

namespace Sys2Proof

/-- VARIANT (R3, R8): the three build variants. A fourth one cannot be written down (R9). -/
inductive Variant where
  | p2
  | p4
  | p5
  deriving DecidableEq, Repr, Inhabited

/-- Which labels stand for an error of the GPIO port, beside the label 0 (R8, D29): a free parameter (log 7). -/
opaque Config.hasPinError : Nat → Bool

/-- The labels of the GPIO port's errors: 0, and those the parameter names. -/
def isPinErrorLabel (label : Nat) : Bool := label == 0 || Config.hasPinError label

/-- PinError (R8, D29): the type of errors the GPIO port defines, a parameter. DESIGN CHOICE: its values are the
labels of an unknown set that holds 0, so nothing but that there is an error can be proved of the type: not how many
there are, nor that there are two (log 7). -/
structure PinError where
  label : Nat
  valid : isPinErrorLabel label = true
  deriving DecidableEq, Repr

/-- The GPIO port's answer to one pin write (R51): `Ok` or `Err(e)`. -/
inductive PinAnswer where
  | ok
  | err (e : PinError)
  deriving DecidableEq, Repr, Inhabited

/-- The delay device's answer to one request (R55, R154). `after n`: DelayDone is there once the block has waited
`n` more steps in DELAY_WAIT (the model has no time, R153; log 5). `never`: the device hangs, which the fairness
assumption of R154 excludes and a claim must exclude by name. -/
inductive DelayAnswer where
  | after (steps : Nat)
  | never
  deriving DecidableEq, Repr, Inhabited

/-- What a platform can place in its own address space (R63): the command port, a register of the read port, a
pin. -/
inductive PlatformPlace where
  | commandPort
  | register (reg : BitVec 8)
  | pin (k : Nat)
  deriving DecidableEq, Repr, Inhabited

/-- PLATFORM_MAP (R63, D8): what stands at an address of the platform, if anything of the block does. -/
abbrev PlatformMap := Nat → Option PlatformPlace

namespace Config

/-- The platform's PLATFORM_MAP (R63, D8), which the spec leaves to the platform: a free constant (log 20). -/
opaque platformMap : PlatformMap

/-- The VARIANT input of the power-on reset (R138). DESIGN CHOICE, safe: a free constant (log 8). -/
opaque variant : Variant

/-- The NUM_STEPS input of the power-on reset (R138); any u32, 0 included (R9). DESIGN CHOICE, safe: a free
constant (log 8). -/
opaque numSteps : U32

/-- errCode (R8, R43, D29): the parameter that turns a PinError into the value register 0x07 reads. -/
opaque errCode : PinError → U32

/-- The GPIO port's free draws (R51): the `n`-th answer that no scripted answer fixes (log 4). -/
opaque pinDraw : Nat → PinAnswer

/-- The delay device's free draws (R55, R56): the `n`-th answer that no scripted answer fixes (log 5). -/
opaque delayDraw : Nat → DelayAnswer

end Config

end Sys2Proof
end

