-- ==== Sys2Proof/Machine/Variants.lean ====
section
/-! DEFINITION. What VARIANT fixes: NPINS, CYCLE (00_scope.md R8) and the pattern ROM (20_memory.md R47,
40_sequencer.md R81 to R84). -/

namespace Sys2Proof

/-- NPINS (R8): how many GPIO pins the variant owns. -/
def Variant.npins : Variant → Nat
  | .p2 => 2
  | .p4 => 4
  | .p5 => 5

/-- CYCLE (R8): how many rows the variant's table has. Not NUM_STEPS (R10, C1). -/
def Variant.cycle : Variant → Nat
  | .p2 => 4
  | .p4 => 4
  | .p5 => 10

theorem Variant.cycle_pos (v : Variant) : 0 < v.cycle := by cases v <;> decide

namespace Machine

/-- The packed pattern of the levels of p1, p2, … (R15): bit k-1 is the level of pin pk, LOW 0 and HIGH 1. -/
def packLevels : List Level → BitVec 5
  | [] => 0
  | .low :: ls => packLevels ls <<< 1
  | .high :: ls => packLevels ls <<< 1 ||| 1

/-- The 2-pin table (R81), each row `[p1, p2]`. -/
def lutP2 : Vector (List Level) 4 :=
  #v[[.low, .high], [.high, .high], [.high, .low], [.low, .low]]

/-- The 4-pin table (R82), each row `[p1, p2, p3, p4]`. -/
def lutP4 : Vector (List Level) 4 :=
  #v[[.high, .low, .high, .low], [.low, .high, .high, .low],
     [.low, .high, .low, .high], [.high, .low, .low, .high]]

/-- The 5-pin table (R83), each row `[p1, p2, p3, p4, p5]`. -/
def lutP5 : Vector (List Level) 10 :=
  #v[[.low, .high, .high, .low, .high], [.low, .high, .low, .low, .high],
     [.low, .high, .low, .high, .high], [.low, .high, .low, .high, .low],
     [.high, .high, .low, .high, .low], [.high, .low, .low, .high, .low],
     [.high, .low, .high, .high, .low], [.high, .low, .high, .low, .low],
     [.high, .low, .high, .low, .high], [.low, .low, .high, .low, .high]]

/-- The table of each variant (R27, R47). -/
def lutTable : (v : Variant) → Vector (List Level) v.cycle
  | .p2 => lutP2
  | .p4 => lutP4
  | .p5 => lutP5

/-- `LutRead(VARIANT, row)` (R47). A row at or above CYCLE cannot be asked for. -/
def lutRead (v : Variant) (row : Fin v.cycle) : BitVec 5 := packLevels (lutTable v)[row]

/-- The row the sequencer selects for a step index (R84): `i mod CYCLE`, whatever NUM_STEPS is. -/
def rowOf (v : Variant) (i : Nat) : Fin v.cycle := ⟨i % v.cycle, Nat.mod_lt _ v.cycle_pos⟩

/-- The pattern of a step index (R84): `LutRead(VARIANT, i mod CYCLE)`. -/
def patternOf (v : Variant) (i : Nat) : BitVec 5 := lutRead v (rowOf v i)

/-- The level a packed pattern holds for pin `k` (R15, R91): `PATTERN[k-1] ? HIGH : LOW`. -/
def levelOf (p : BitVec 5) (k : Nat) : Level := if p.getLsbD (k - 1) then .high else .low

end Machine

end Sys2Proof
end

