-- ==== Sys2Proof/Machine/State.lean ====
section
/-! DEFINITION. The state of the block (10_state.md R19), the pin levels and the event trace a model keeps beside
it (R38, 20_memory.md R58), and the outside world as plain data: the words the host offers, the reset it asserts,
and the answers of the GPIO port and of the delay device (00_scope.md R11). -/

namespace Sys2Proof.Machine

/-- PINLVL[k] (R38). UNKNOWN stands for any value (R52, log 15). -/
inductive PinLevel where
  | low
  | high
  | unknown
  deriving DecidableEq, Repr, Inhabited

/-- DIR (R24). -/
inductive Direction where
  | forward
  | backward
  deriving DecidableEq, Repr, Inhabited

/-- PHASE (R31). -/
inductive Phase where
  | idle
  | delayIssue
  | delayWait
  | advance
  | drive
  deriving DecidableEq, Repr, Inhabited

/-- CUR_OP (R32). -/
inductive CurOp where
  | none
  | move
  | deenergize
  | seqStep
  | seqClear
  deriving DecidableEq, Repr, Inhabited

/-- RESULT (R36): the outcome of the last completed command. -/
inductive ResultCode where
  | none
  | ok
  | pinFail
  | illegal
  deriving DecidableEq, Repr, Inhabited

/-- The result a command completes with (R17, R37). -/
inductive Completion where
  | ok
  | pinFail (e : PinError)
  | illegal
  deriving DecidableEq, Repr, Inhabited

/-- An event of the trace (R58). -/
inductive Event where
  | accept (word : CmdWord)
  | pinWrite (pin : Nat) (level : Level) (answer : PinAnswer)
  | delayReq (us : U32)
  | delayDone
  | complete (result : Completion)
  | reset
  deriving DecidableEq, Repr

/-- The reset the host asserts, with its configuration inputs (R138). `variant = none` stands for a VARIANT value
that is none of P2, P4 and P5 (R9, log 9). -/
structure ResetInput where
  variant : Option Variant
  numSteps : U32
  deriving DecidableEq, Repr

/-- The states in which no transition is enabled and none will be before a reset. No run from reset gets to one of
them (log 14); stopping there is safe. The spec's own errors are results (R121), not faults. -/
inductive Fault where
  /-- DRIVE with PIN_CURSOR outside 1..NPINS, where R91 enables nothing. Raised by the DRIVE transition. Safe. -/
  | driveCursorOutOfRange
  /-- DELAY_WAIT with DELAY_PENDING = 0 or no request at the delay device, where R103 has no pending request that
  could be answered. Raised by the DELAY_WAIT transition. Safe. -/
  | noPendingDelay
  deriving DecidableEq, Repr

/-- What the model refuses. -/
inductive Refusal where
  /-- An instruction that has no meaning yet. Raised by exec's arms only (none does). Safe. -/
  | notModelled (mnemonic : String)
  /-- A reset with a VARIANT that is none of P2, P4 and P5: "a model refuses to construct such a block" (R9).
  Raised by the reset transition. Safe. -/
  | variantNotConfigurable
  deriving DecidableEq, Repr

/-- The state. -/
structure State where
  /-- VARIANT (R26); it fixes NPINS and CYCLE. Written by reset only. -/
  variant : Variant
  /-- NUM_STEPS (R22). Written by reset only. -/
  numSteps : U32
  /-- STEP_INDEX (R23). -/
  stepIndex : U32
  /-- DIR (R24). -/
  dir : Direction
  /-- STEP_DELAY (R25), in microseconds. -/
  stepDelay : U32
  /-- REMAINING (R28). -/
  remaining : U32
  /-- PHASE (R31). -/
  phase : Phase
  /-- CUR_OP (R32). -/
  curOp : CurOp
  /-- PIN_CURSOR (R29): 1..NPINS, or 0 when no pin write is in progress. -/
  pinCursor : Nat
  /-- PATTERN (R30): bit k-1 is the level of pin pk; the bits above NPINS are 0 (log 11). -/
  pattern : BitVec 5
  /-- BUSY (R33). -/
  busy : Bool
  /-- RESULT (R36). -/
  result : ResultCode
  /-- LAST_ERR (R36). -/
  lastErr : Option PinError
  /-- DELAY_PENDING (R34). -/
  delayPending : Bool
  /-- PINLVL[1], PINLVL[2], … (R38): NPINS levels, p1 first. -/
  pins : List PinLevel
  /-- The event trace (R58), oldest event first. -/
  trace : List Event
  /-- The reset the host asserts now, if any (R138). The model's own field (log 9). -/
  resetIn : Option ResetInput
  /-- The words of the host (R66): the head stands at the command port, the rest follow it one by one. The model's
  own field (log 3). -/
  cmdPort : List CmdWord
  /-- The answers the GPIO port gives next (R51, R113). The model's own field (log 4). -/
  gpioAnswers : List PinAnswer
  /-- How many free answers have been drawn for pin writes. The model's own field (log 4). -/
  pinDraws : Nat
  /-- The answers the delay device gives to the next requests (R55). The model's own field (log 5). -/
  delayAnswers : List DelayAnswer
  /-- How many free answers have been drawn for delay requests. The model's own field (log 5). -/
  delayDraws : Nat
  /-- The delay device's work on the pending request, if there is one (R55, R103). The model's own field (log 5). -/
  delayDevice : Option DelayAnswer
  /-- How many DelayDone answers to abandoned requests are still to come (R34, R140). The model's own field
  (log 6). -/
  lateDones : Nat
  deriving DecidableEq, Repr

/-- The block right after a reset with the inputs VARIANT and NUM_STEPS (R138, R139), with an outside world that
offers nothing and has no scripted answers (log 17). -/
def State.construct (v : Variant) (n : U32) : State where
  variant := v
  numSteps := n
  stepIndex := 0
  dir := .forward
  stepDelay := 0
  remaining := 0
  phase := .idle
  curOp := .none
  pinCursor := 0
  pattern := 0
  busy := false
  result := .none
  lastErr := none
  delayPending := false
  pins := List.replicate v.npins .unknown
  trace := [.reset]
  resetIn := none
  cmdPort := []
  gpioAnswers := []
  pinDraws := 0
  delayAnswers := []
  delayDraws := 0
  delayDevice := none
  lateDones := 0

/-- The machine right after the power-on reset (R138), for the free configuration of Config (log 8). -/
def State.reset : State := State.construct Config.variant Config.numSteps

end Sys2Proof.Machine
end

