-- ==== Sys2Proof/Machine/Ops.lean ====
section
/-! DEFINITION. The shared operations: the event trace, pin levels and pin writes (20_memory.md R51, R52), the
delay device (R55), the command port (30_encoding.md R66), `complete` and the two errors (10_state.md R37,
60_exceptions.md R122, R123), reset (70_reset_and_hazards.md R138 to R140) and waiting. -/

namespace Sys2Proof.Machine

/-- The outcome of a meaning or of a transition. -/
abbrev StepOutcome := Host.Outcome State Fault Refusal

/-- Append one event to the trace (R58). -/
def emit (e : Event) (s : State) : State := { s with trace := s.trace ++ [e] }

/-! ### Completion and errors -/

/-- The RESULT of a completion (R36, R37). -/
def Completion.code : Completion → ResultCode
  | .ok => .ok
  | .pinFail _ => .pinFail
  | .illegal => .illegal

/-- The LAST_ERR of a completion (R36, R37): `some e` for PIN_FAIL(e), else none. -/
def Completion.err : Completion → Option PinError
  | .ok => none
  | .pinFail e => some e
  | .illegal => none

/-- `complete(r)` (R37): the one way a command ends. It records the result, returns the FSM to IDLE and emits
`Complete(r)`; it writes nothing else. -/
def complete (r : Completion) (s : State) : State :=
  emit (.complete r)
    { s with result := r.code, lastErr := r.err, phase := .idle, curOp := .none, busy := false,
             pinCursor := 0, delayPending := false }

/-- `raise PinFail(e)` (R14, R122, R127). There is no handler and nothing is saved; there is no return from it
either (R128): the block is IDLE and takes the next command. -/
def raisePinFail (e : PinError) (s : State) : State := complete (.pinFail e) s

/-- `raise IllegalCommand` (R14, R123). -/
def raiseIllegal (s : State) : State := complete .illegal s

/-! ### Pins -/

/-- The level a pin holds after it has been driven (R38, R52). -/
def PinLevel.ofLevel : Level → PinLevel
  | .low => .low
  | .high => .high

/-- PINLVL[k] (R38). There is no pin 0 and no pin above NPINS; they read UNKNOWN. -/
def readPin (s : State) : Nat → PinLevel
  | 0 => .unknown
  | k + 1 => s.pins.getD k .unknown

/-- PINLVL[k] <- l (R38, R52), for a pin k in 1..NPINS. -/
def setPin (k : Nat) (l : PinLevel) (s : State) : State := { s with pins := s.pins.set (k - 1) l }

/-- What a pin write leaves on its pin (R52): the level on Ok, UNKNOWN on Err. -/
def levelAfter (lvl : Level) : PinAnswer → PinLevel
  | .ok => PinLevel.ofLevel lvl
  | .err _ => .unknown

/-- The GPIO port's answer to the next pin write (R51): the next scripted one, else a free draw (log 4). -/
def pinAnswerOf (s : State) : PinAnswer := s.gpioAnswers.head?.getD (Config.pinDraw s.pinDraws)

/-- The GPIO port has given that answer. -/
def takePinAnswer (s : State) : State :=
  match s.gpioAnswers with
  | _ :: rest => { s with gpioAnswers := rest }
  | [] => { s with pinDraws := s.pinDraws + 1 }

/-- `PinWrite(k, lvl)` with its answer (R51, R52): one event, and the pin's new level. -/
def pinWrite (k : Nat) (lvl : Level) (s : State) : State :=
  let r := pinAnswerOf s
  emit (.pinWrite k lvl r) (setPin k (levelAfter lvl r) (takePinAnswer s))

/-- Start a DRIVE phase (R86, R87, R90, R104, R117): load PATTERN and put PIN_CURSOR on p1. -/
def loadPattern (p : BitVec 5) (s : State) : State :=
  { s with pattern := p, pinCursor := 1, phase := .drive }

/-- The accepting transition of the three sequencer commands (R86, R90, R117). -/
def startDrive (op : CurOp) (p : BitVec 5) (s : State) : State :=
  loadPattern p { s with curOp := op, busy := true }

/-! ### The delay device -/

/-- The delay device's answer to the next request (R55): the next scripted one, else a free draw (log 5). -/
def delayAnswerOf (s : State) : DelayAnswer := s.delayAnswers.head?.getD (Config.delayDraw s.delayDraws)

/-- The delay device has taken up the request and begins its wait. -/
def startDelay (s : State) : State :=
  match s.delayAnswers with
  | a :: rest => { s with delayAnswers := rest, delayDevice := some a }
  | [] => { s with delayDraws := s.delayDraws + 1, delayDevice := some (Config.delayDraw s.delayDraws) }

/-- A step in which the block has no enabled transition (R31, R103, R137): it waits. A late DelayDone that arrives
meanwhile is ignored (R34, R140, log 6). -/
def waitStep (s : State) : State := { s with lateDones := s.lateDones - 1 }

/-! ### The command port -/

/-- Take the word at the command port and record `Accept(word)` (R58, R66). The next word of the host, if any,
moves up to the port. -/
def fetch (s : State) : Option (CmdWord × State) :=
  match s.cmdPort with
  | [] => none
  | w :: rest => some (w, emit (.accept w) { s with cmdPort := rest })

/-- The host offers a word (R66). It cannot offer a second word while one is held. -/
def offerWord (w : CmdWord) (s : State) : Option State :=
  match s.cmdPort with
  | [] => some { s with cmdPort := [w] }
  | _ :: _ => none

/-! ### Reset -/

/-- How many late DelayDone answers a reset leaves behind (R140): one for a pending request the delay device will
still answer. -/
def abandonedBy (s : State) : Nat :=
  match s.delayDevice with
  | some (.after _) => 1
  | some .never => 0
  | none => 0

/-- The reset transition with a legal VARIANT (R138, R139, R140). The words the host still offers, the answers of
the outside world and the trace so far are not the block's and stay (log 10). -/
def applyReset (v : Variant) (n : U32) (s : State) : State :=
  emit .reset
    { s with variant := v, numSteps := n, stepIndex := 0, dir := .forward, stepDelay := 0, remaining := 0,
             phase := .idle, curOp := .none, busy := false, pinCursor := 0, pattern := 0,
             delayPending := false, result := .none, lastErr := none,
             pins := List.replicate v.npins .unknown,
             resetIn := none, delayDevice := none, lateDones := s.lateDones + abandonedBy s }

/-- The reset the host asserts (R9, R138): a VARIANT that is none of the three is refused. -/
def takeReset (r : ResetInput) (s : State) : StepOutcome :=
  match r.variant with
  | some v => .next (applyReset v r.numSteps s)
  | none => .refused .variantNotConfigurable

end Sys2Proof.Machine
end

