-- ==== Sys2Proof/Machine/Operands.lean ====
section
/-! DEFINITION. What the commands compute from their operands: the step delay (41_controller.md R98, R99), the
direction and magnitude of a MOVE (R100, R119) and the next index (R105, R106). -/

namespace Sys2Proof.Machine

/-- US_PER_MINUTE (R8). -/
def usPerMinute : Nat := 60000000

/-- `stepDelayOf(N, rpm)` (R98), divided left to right as R99 demands. -/
def stepDelayOf (n rpm : Nat) : Nat :=
  if rpm = 0 ∨ n = 0 then 0 else usPerMinute / n / rpm

/-- The DIR a MOVE sets (R100): BACKWARD for a negative operand, else FORWARD. -/
def moveDir (n : Int) : Direction := if n < 0 then .backward else .forward

/-- The REMAINING a MOVE sets (R100, R119): the magnitude, exact up to 2^31. -/
def moveMagnitude (n : Int) : U32 := wrap32 (if n < 0 then (-n).toNat else n.toNat)

/-- `nextIndex` (R105), with the wrap of R106 when NUM_STEPS is 0. -/
def nextIndex (i : U32) (d : Direction) (n : U32) : U32 :=
  match d with
  | .forward => let j := i + 1; if j = n then 0 else j
  | .backward => let j := if i = 0 then n else i; j - 1

end Sys2Proof.Machine
end

