-- ==== Sys2Proof/Machine/Controller.lean ====
section
/-! DEFINITION. The controller's commands (41_controller.md §4.2): SET_SPEED, MOVE and DEENERGIZE. A meaning is the
command's part of its accepting transition (30_encoding.md R66); step calls it in IDLE only (log 1). -/

namespace Sys2Proof.Machine

/-- SET_SPEED (R97): one transition that writes STEP_DELAY and completes OK. -/
def execSetSpeed (rpm : Nat) (s : State) : StepOutcome :=
  .next (complete .ok { s with stepDelay := wrap32 (stepDelayOf s.numSteps.toNat rpm) })

/-- MOVE (R100): set DIR and REMAINING, then complete OK at once for zero steps, else go on to DELAY_ISSUE. -/
def execMove (n : Int) (s : State) : StepOutcome :=
  let s1 := { s with dir := moveDir n, remaining := moveMagnitude n }
  if s1.remaining = 0 then .next (complete .ok s1)
  else .next { s1 with curOp := .move, phase := .delayIssue, busy := true }

/-- DEENERGIZE (R117): the sequencer's clear, an all-LOW pattern (R89). -/
def execDeenergize (s : State) : StepOutcome := .next (startDrive .deenergize 0 s)

end Sys2Proof.Machine
end

