-- ==== Sys2Proof/Machine/Sequencer.lean ====
section
/-! DEFINITION. The coil-sequencer's commands (40_sequencer.md §4.1): SEQ_STEP and SEQ_CLEAR. A meaning is the
command's part of its accepting transition; the DRIVE transitions of Transitions.lean write the pins. -/

namespace Sys2Proof.Machine

/-- SEQ_STEP (R86): drive the pattern of row `i mod CYCLE`. STEP_INDEX is neither read nor written. -/
def execSeqStep (i : Nat) (s : State) : StepOutcome := .next (startDrive .seqStep (patternOf s.variant i) s)

/-- SEQ_CLEAR (R90): drive every pin LOW (R89). -/
def execSeqClear (s : State) : StepOutcome := .next (startDrive .seqClear 0 s)

end Sys2Proof.Machine
end

