-- ==== Sys2Proof/Machine/Dispatch.lean ====
section
/-! DEFINITION. One arm per command: each calls the command's meaning. -/

namespace Sys2Proof.Machine

/-- The command's part of the accepting transition (30_encoding.md R66). -/
def exec (i : Instr) (s : State) : Host.Outcome State Fault Refusal :=
  match i with
  | .setSpeed rpm => Sys2Proof.Machine.execSetSpeed rpm s
  | .move n => Sys2Proof.Machine.execMove n s
  | .deenergize => Sys2Proof.Machine.execDeenergize s
  | .seqStep idx => Sys2Proof.Machine.execSeqStep idx s
  | .seqClear => Sys2Proof.Machine.execSeqClear s

end Sys2Proof.Machine
end

