-- ==== Sys2Proof/Machine/Accept.lean ====
section
/-! DEFINITION. The accepting transition (30_encoding.md R66, R72, R78). -/

namespace Sys2Proof.Machine

/-- What the block does with a word it has taken from the port: the command's own part of the transition, or
ILLEGAL at once (R72, R123). -/
def acceptWord (w : CmdWord) (s : State) : StepOutcome :=
  match decode w with
  | .ok i => exec i s
  | .error _ => .next (raiseIllegal s)

/-- IDLE (R31, R66): take the word at the port, or wait for one (R137). -/
def accept (s : State) : StepOutcome :=
  match fetch s with
  | some (w, s1) => acceptWord w s1
  | none => .next (waitStep s)

end Sys2Proof.Machine
end

