-- ==== Sys2Proof/Machine/Transitions.lean ====
section
/-! DEFINITION. The transitions a command runs through after its accepting transition (10_state.md R31):
DELAY_ISSUE, DELAY_WAIT, ADVANCE (41_controller.md R102 to R104), DRIVE (40_sequencer.md R91 to R93) and the end of
a physical step (41_controller.md R108). -/

namespace Sys2Proof.Machine

/-- DELAY_ISSUE (R102): issue `DelayReq(STEP_DELAY)`, also when STEP_DELAY is 0. -/
def delayIssue (s : State) : State :=
  let s1 := startDelay (emit (.delayReq s.stepDelay) s)
  { s1 with delayPending := true, phase := .delayWait }

/-- DELAY_WAIT when the pending request has been answered (R103): consume DelayDone. -/
def consumeDelayDone (s : State) : State :=
  emit .delayDone { s with delayPending := false, phase := .advance, delayDevice := none }

/-- DELAY_WAIT (R103): consume the answer once it is there, and wait for it until then (R154). -/
def delayWait (s : State) : StepOutcome :=
  match s.delayPending, s.delayDevice with
  | true, some (.after 0) => .next (consumeDelayDone s)
  | true, some (.after (n + 1)) => .next (waitStep { s with delayDevice := some (.after n) })
  | true, some .never => .next (waitStep s)
  | _, _ => .fault .noPendingDelay

/-- ADVANCE (R104): the new index, and the pattern of the new index's row. -/
def advance (s : State) : State :=
  let i := nextIndex s.stepIndex s.dir s.numSteps
  loadPattern (patternOf s.variant i.toNat) { s with stepIndex := i }

/-- The end of a physical step (R108): no delay follows the last one. -/
def endOfStep (s : State) : State :=
  let s1 := { s with remaining := s.remaining - 1 }
  if s1.remaining = 0 then complete .ok s1 else { s1 with phase := .delayIssue }

/-- DRIVE after the answer Ok to pin `k` (R92). -/
def driveOk (k : Nat) (s : State) : State :=
  if k < s.variant.npins then { s with pinCursor := k + 1 }
  else
    let s1 := { s with pinCursor := 0 }
    if s1.curOp = .move then endOfStep s1 else complete .ok s1

/-- DRIVE after the answer `r` to pin `k` (R92, R93). -/
def driveAnswered (k : Nat) (r : PinAnswer) (s : State) : State :=
  match r with
  | .ok => driveOk k s
  | .err e => raisePinFail e s

/-- DRIVE (R91): write the pin under PIN_CURSOR and act on the answer, in one transition. -/
def drive (s : State) : StepOutcome :=
  let k := s.pinCursor
  if 1 ≤ k ∧ k ≤ s.variant.npins then
    .next (driveAnswered k (pinAnswerOf s) (pinWrite k (levelOf s.pattern k) s))
  else .fault .driveCursorOutOfRange

end Sys2Proof.Machine
end

