-- ==== Sys2Proof/Machine/Step.lean ====
section
/-! DEFINITION. One step of the machine: one transition of the block (10_state.md R31), or a step in which it has
none enabled and waits. -/

namespace Sys2Proof.Machine

/-- One step. Reset wins over every transition (60_exceptions.md R126, R140); else PHASE says which transition
there is (R31). -/
def step (s : State) : Host.Outcome State Fault Refusal :=
  match s.resetIn with
  | some r => takeReset r s
  | none =>
    match s.phase with
    | .idle => accept s
    | .delayIssue => .next (delayIssue s)
    | .delayWait => delayWait s
    | .advance => .next (advance s)
    | .drive => drive s

/-- `s` with the command word `w` at the command port and the block ready to accept it (log 3): no reset is
asserted and the FSM is IDLE. A state that meets Inv, is IDLE and has no reset asserted changes in cmdPort only. -/
def State.withFetchWord (s : State) (nbits w : Nat) : State :=
  { s with cmdPort := tableWord nbits w :: s.cmdPort.tail, resetIn := none, phase := .idle, curOp := .none,
           busy := false, pinCursor := 0, delayPending := false, delayDevice := none }

end Sys2Proof.Machine
end

