-- ==== Sys2Proof/Machine/Flags.lean ====
section
/-! DEFINITION. The status codes and the read port (10_state.md R24, R31, R32, R36, R39 to R43, 30_encoding.md
R80). The block has no condition codes (R35). A read is a function of the state between two transitions, with no
side effect (R40, log 16). -/

namespace Sys2Proof.Machine

/-- DIR's bit (R24). -/
def Direction.code : Direction → BitVec 1
  | .forward => 0
  | .backward => 1

/-- PHASE's STATUS code (R31). -/
def Phase.code : Phase → BitVec 3
  | .idle => 0
  | .delayIssue => 1
  | .delayWait => 2
  | .advance => 3
  | .drive => 4

/-- CUR_OP's STATUS code (R32). -/
def CurOp.code : CurOp → BitVec 3
  | .none => 0
  | .move => 1
  | .deenergize => 2
  | .seqStep => 3
  | .seqClear => 4

/-- RESULT's STATUS code (R36). -/
def ResultCode.code : ResultCode → BitVec 2
  | .none => 0
  | .ok => 1
  | .pinFail => 2
  | .illegal => 3

/-- STATUS (R41): `{21'b0, CUR_OP, 1'b0, PHASE, 1'b0, RESULT, BUSY}`. -/
def statusReg (s : State) : U32 :=
  (0 : BitVec 21) ++ s.curOp.code ++ (0 : BitVec 1) ++ s.phase.code ++ (0 : BitVec 1) ++ s.result.code ++
    BitVec.ofBool s.busy

/-- CONFIG (R42): `{16'b0, CYCLE[7:0], 4'b0, NPINS[3:0]}`. -/
def configReg (v : Variant) : U32 :=
  (0 : BitVec 16) ++ BitVec.ofNat 8 v.cycle ++ (0 : BitVec 4) ++ BitVec.ofNat 4 v.npins

/-- LAST_ERR (R43): `errCode(e)`, or 0 when there is none. -/
def lastErrReg : Option PinError → U32
  | some e => Config.errCode e
  | none => 0

/-- A read of the read port (R39, R40): the register with this number. -/
def readReg (s : State) (reg : BitVec 8) : U32 :=
  match reg.toNat with
  | 0x00 => statusReg s
  | 0x01 => s.numSteps
  | 0x02 => s.stepIndex
  | 0x03 => (0 : BitVec 31) ++ s.dir.code
  | 0x04 => s.stepDelay
  | 0x05 => configReg s.variant
  | 0x06 => s.remaining
  | 0x07 => lastErrReg s.lastErr
  | _ => 0

/-- The four bytes of a register value on a byte-wide transport, least significant first (R49). -/
def registerBytes (v : U32) : List Byte :=
  [v.extractLsb' 0 8, v.extractLsb' 8 8, v.extractLsb' 16 8, v.extractLsb' 24 8]

/-- The register value that four bytes of a byte-wide transport carry (R49), with the bytes after it. -/
def registerOfBytes : List Byte → Option (U32 × List Byte)
  | b0 :: b1 :: b2 :: b3 :: rest => some (b3 ++ b2 ++ b1 ++ b0, rest)
  | _ => none

/-- A read of the read port over a byte-wide transport (R40, R49). -/
def readRegBytes (s : State) (reg : BitVec 8) : List Byte := registerBytes (readReg s reg)

end Sys2Proof.Machine
end

