-- ==== Sys2Proof/Machine/Platform.lean ====
section
/-! DEFINITION. The block in a platform's address space (20_memory.md R63): PLATFORM_MAP is an argument, and the
platform's own is the free constant Config.platformMap (log 20). -/

namespace Sys2Proof.Machine

/-- A read of the platform at address `a`: the register that PLATFORM_MAP places there, if it places one (R39, R63).
The spec gives no read of the command port or of a pin. -/
def platformRead (m : PlatformMap) (a : Nat) (s : State) : Option U32 :=
  match m a with
  | some (.register reg) => some (readReg s reg)
  | some .commandPort => none
  | some (.pin _) => none
  | none => none

/-- A write of the platform at address `a`: a word offered to the block, if PLATFORM_MAP places the command port there
and no word is held (R63, R66). No register can be written (R39), and no pin but by the block (R54). -/
def platformWrite (m : PlatformMap) (a : Nat) (w : CmdWord) (s : State) : Option State :=
  match m a with
  | some .commandPort => offerWord w s
  | some (.register _) => none
  | some (.pin _) => none
  | none => none

end Sys2Proof.Machine
end

