-- ==== Sys2Proof/Safety.lean ====
section
/-! DEFINITION. The terms that claims use: the legal states (10_state.md R31 to R36), the end of a command
(70_reset_and_hazards.md R155), what a trace says of a pin (R38, 20_memory.md R52) and the whole MOVE as one
function (41_controller.md R113). -/

namespace Sys2Proof.Machine

/-- The legal states of the block. Reset gives one, and every step keeps it. -/
structure State.Inv (s : State) : Prop where
  /-- R33: BUSY is 1 exactly when PHASE is not IDLE. -/
  busy_iff : s.busy = true ↔ s.phase ≠ .idle
  /-- R32, R33: BUSY = 0 if and only if CUR_OP = NONE. -/
  op_none_iff : s.curOp = .none ↔ s.phase = .idle
  /-- R31: only a MOVE is in DELAY_ISSUE, DELAY_WAIT or ADVANCE. -/
  op_move : s.phase = .delayIssue ∨ s.phase = .delayWait ∨ s.phase = .advance → s.curOp = .move
  /-- R29: PIN_CURSOR is 0 when no pin write is in progress. -/
  cursor_zero : s.phase ≠ .drive → s.pinCursor = 0
  /-- R29: PIN_CURSOR is in 1..NPINS in DRIVE. -/
  cursor_range : s.phase = .drive → 1 ≤ s.pinCursor ∧ s.pinCursor ≤ s.variant.npins
  /-- R34: DELAY_PENDING is 1 from DELAY_ISSUE until DelayDone, which is DELAY_WAIT. -/
  pending_iff : s.delayPending = true ↔ s.phase = .delayWait
  /-- R55: the delay device works on a request exactly while one is pending. -/
  device_iff : s.delayDevice.isSome = s.delayPending
  /-- R28, R108: a MOVE in progress has a physical step still to complete. -/
  remaining_pos : s.curOp = .move → s.remaining ≠ 0
  /-- R119: no MOVE is longer than 2^31 steps. -/
  remaining_le : s.remaining.toNat ≤ 2 ^ 31
  /-- R35, C7: STEP_INDEX < NUM_STEPS in every state, whenever NUM_STEPS > 0. -/
  index_lt : s.numSteps ≠ 0 → s.stepIndex.toNat < s.numSteps.toNat
  /-- R25: STEP_DELAY is at most 60,000,000. -/
  delay_le : s.stepDelay.toNat ≤ 60000000
  /-- R30: PATTERN has NPINS bits. -/
  pattern_lt : s.pattern.toNat < 2 ^ s.variant.npins
  /-- R36: LAST_ERR is `some e` exactly when RESULT = PIN_FAIL. -/
  err_iff : s.lastErr.isSome = true ↔ s.result = .pinFail
  /-- R38: one level for each of the NPINS pins. -/
  pins_length : s.pins.length = s.variant.npins

/-- `k` steps after the accepting transition that gave `s`, the command has ended in `t` (R155): `t` is the first
IDLE state. -/
def EndsIn (k : Nat) (s t : State) : Prop :=
  core.run k s = .next t ∧ t.phase = .idle ∧ ∀ j < k, ∃ u, core.run j s = .next u ∧ u.phase ≠ .idle

/-- The command `i`, accepted in `s`, ends in `t` (R155). -/
def Ends (i : Instr) (s t : State) : Prop :=
  ∃ s1 k, exec i s = .next s1 ∧ EndsIn k s1 t

/-- The block is legal, IDLE and not held in reset: it can accept a command (R66). -/
def Ready (s : State) : Prop := s.Inv ∧ s.resetIn = none ∧ s.phase = .idle

/-- A command of the coil-sequencer or its pass-through (R94): DEENERGIZE, SEQ_STEP or SEQ_CLEAR. -/
def drivesOnce : Instr → Bool
  | .deenergize | .seqStep _ | .seqClear => true
  | .setSpeed _ | .move _ => false

/-- The pattern such a command writes (R84, R86, R89, R117); a MOVE's pattern is that of its index. -/
def patternWritten (v : Variant) : Instr → BitVec 5
  | .seqStep i => patternOf v i
  | .deenergize | .seqClear | .setSpeed _ | .move _ => 0

/-- The pins p1 to pn in the order they are written (R91). -/
def pinOrder (n : Nat) : List Nat := (List.range n).map (· + 1)

/-- The event of one pin write of a pattern (R91). -/
def writeEvent (p : BitVec 5) (r : PinAnswer) (k : Nat) : Event := .pinWrite k (levelOf p k) r

/-- What one event does to the level of pin `k` (R38, R52): a write of that pin, or a reset. -/
def pinAfter (k : Nat) (l : PinLevel) : Event → PinLevel
  | .pinWrite j lvl r => if j = k then levelAfter lvl r else l
  | .reset => .unknown
  | .accept _ | .delayReq _ | .delayDone | .complete _ => l

/-- The level a trace leaves on pin `k`; before the first event nothing is known of it. -/
def tracePin (k : Nat) (tr : List Event) : PinLevel := tr.foldl (pinAfter k) .unknown

/-- Is the event a delay request (R110)? -/
def Event.isDelayReq : Event → Bool
  | .delayReq _ => true
  | _ => false

/-- Is the event a delay answer (R110)? -/
def Event.isDelayDone : Event → Bool
  | .delayDone => true
  | _ => false

/-- Is the event a pin write (R110)? -/
def Event.isPinWrite : Event → Bool
  | .pinWrite _ _ _ => true
  | _ => false

/-- Is the event an accept (R58, R66)? -/
def Event.isAccept : Event → Bool
  | .accept _ => true
  | _ => false

/-- Is the event the end of a command (R58, R37)? -/
def Event.isComplete : Event → Bool
  | .complete _ => true
  | _ => false

/-- STEP_INDEX after `m` advances (R105, R111). -/
def indexAfter (d : Direction) (n : U32) : Nat → U32 → U32
  | 0, i => i
  | m + 1, i => indexAfter d n m (nextIndex i d n)

/-! ### The whole MOVE as one function (R113) -/

/-- What the inner loop of R113 leaves: its events, the error that stopped it, and the answers it did not use. -/
structure RowRun where
  events : List Event
  failed : Option PinError
  rest : List PinAnswer
  deriving DecidableEq, Repr

/-- The inner loop of R113 over the pins `ks`. `none`: the sequence of answers is too short. -/
def writeRow (p : BitVec 5) : List Nat → List PinAnswer → Option RowRun
  | [], ans => some ⟨[], none, ans⟩
  | _ :: _, [] => none
  | k :: _, .err e :: ans => some ⟨[writeEvent p (.err e) k], some e, ans⟩
  | k :: ks, .ok :: ans =>
    match writeRow p ks ans with
    | some r => some { r with events := writeEvent p .ok k :: r.events }
    | none => none

/-- What `moveBig` leaves (R113). -/
structure MoveRun where
  stepIndex : U32
  remaining : Nat
  completion : Completion
  events : List Event
  rest : List PinAnswer
  deriving DecidableEq, Repr

/-- The outer loop of R113, `m` iterations from the index `i`. -/
def moveLoop (v : Variant) (n : U32) (d : Direction) (us : U32) : Nat → U32 → List PinAnswer → Option MoveRun
  | 0, i, ans => some ⟨i, 0, .ok, [], ans⟩
  | m + 1, i, ans =>
    let j := nextIndex i d n
    match writeRow (patternOf v j.toNat) (pinOrder v.npins) ans with
    | none => none
    | some ⟨evs, some e, rest⟩ => some ⟨j, m + 1, .pinFail e, .delayReq us :: .delayDone :: evs, rest⟩
    | some ⟨evs, none, rest⟩ =>
      match moveLoop v n d us m j rest with
      | some r => some { r with events := .delayReq us :: .delayDone :: (evs ++ r.events) }
      | none => none

/-- `moveBig(state, n, ans)` (R113). -/
def moveBig (s : State) (n : Int) (ans : List PinAnswer) : Option MoveRun :=
  moveLoop s.variant s.numSteps (if n < 0 then .backward else .forward) s.stepDelay n.natAbs s.stepIndex ans

end Sys2Proof.Machine
end

