-- ==== Sys2Proof/Certificates/Slice0/Obligations.lean ====
section
/-! DEFINITION. The statements for the provers. Each docstring names the rules of spec/ it states; where a clause
rests on the model's own choice, it names the log entry. -/

open Sys2Proof Sys2Proof.Machine

/-! ### Encoding (30_encoding.md) -/

/-- R79: a few of the worked encodings, legal and illegal. -/
def Obligations.WorkedEncodingsDecode : Prop :=
  decode 0x0000003C00000001 = .ok (.setSpeed 60) ∧ decode 0x0000000400000002 = .ok (.move 4) ∧
  decode 0xFFFFFFFD00000002 = .ok (.move (-3)) ∧ decode 0x8000000000000002 = .ok (.move (-2147483648)) ∧
  decode 0x0000000000000003 = .ok .deenergize ∧ decode 0x0000000300000004 = .ok (.seqStep 3) ∧
  decode 0x0000000000000005 = .ok .seqClear ∧
  decode 0x0000000000000000 = .error (.unassignedOpcode 0x00) ∧
  decode 0x0000000000000106 = .error .reservedNotZero ∧
  decode 0x0000000100000003 = .error .operandNotZero ∧
  decode 0x0000000000000101 = .error .reservedNotZero

/-- R77, R78: decoding an encoded command gives it back, for every operand the encoding admits. -/
def Obligations.DecodeEncodeRoundTrip : Prop :=
  ∀ i : Instr, i.wf = true → decode (encode i) = .ok i

/-- R77, R78: encoding what a word decodes to gives the word back. -/
def Obligations.EncodeDecodeRoundTrip : Prop :=
  ∀ (w : CmdWord) (i : Instr), decode w = .ok i → encode i = w ∧ i.wf = true

/-- R70: a word decodes to a command exactly when it selects the command's row of opcode_table.json, and the rows
do not overlap. -/
def Obligations.TableRowSelectsCommand : Prop :=
  ∀ w : CmdWord,
    ((∃ rpm, decode w = .ok (.setSpeed rpm)) ↔ w &&& 0x00000000FFFFFFFF = 0x0000000000000001) ∧
    ((∃ n, decode w = .ok (.move n)) ↔ w &&& 0x00000000FFFFFFFF = 0x0000000000000002) ∧
    (decode w = .ok .deenergize ↔ w &&& 0xFFFFFFFFFFFFFFFF = 0x0000000000000003) ∧
    ((∃ i, decode w = .ok (.seqStep i)) ↔ w &&& 0x00000000FFFFFFFF = 0x0000000000000004) ∧
    (decode w = .ok .seqClear ↔ w &&& 0xFFFFFFFFFFFFFFFF = 0x0000000000000005)

/-- R68: the operand is `word[63:32]`, unsigned for SET_SPEED and SEQ_STEP, two's complement for MOVE. -/
def Obligations.OperandAssembly : Prop :=
  ∀ (w : CmdWord) (rpm idx : Nat) (n : Int),
    (decode w = .ok (.setSpeed rpm) → rpm = w.toNat / 2 ^ 32) ∧
    (decode w = .ok (.move n) → n = (w.toNat / 2 ^ 32 : Nat) - (if 2 ^ 63 ≤ w.toNat then 2 ^ 32 else 0)) ∧
    (decode w = .ok (.seqStep idx) → idx = w.toNat / 2 ^ 32) ∧
    (decode w = .ok .deenergize ∨ decode w = .ok .seqClear → w.toNat / 2 ^ 32 = 0)

/-- R49: over a byte-wide transport a word goes least significant byte first, and the decoder reads it back and
leaves the bytes after it. -/
def Obligations.TransportIsLittleEndian : Prop :=
  ∀ (w : CmdWord) (rest : List Byte),
    (∀ k < 8, ((wordBytes w).getD k 0).toNat = w.toNat / 256 ^ k % 256) ∧
    (∀ i, decode w = .ok i → decodeBytes (wordBytes w ++ rest) = .ok (i, rest)) ∧
    (∀ why, decode w = .error why → decodeBytes (wordBytes w ++ rest) = .error (.illegal why))

/-- R69, R71, R72: which words are illegal, and that the block accepts one and completes it in the same transition
with ILLEGAL and no other effect. -/
def Obligations.IllegalWordCompletesAtOnce : Prop :=
  ∀ w : CmdWord,
    ((∃ why, decode w = .error why) ↔
      (w.toNat % 256 ∉ [0x01, 0x02, 0x03, 0x04, 0x05] ∨ w.toNat / 256 % 2 ^ 24 ≠ 0 ∨
        (w.toNat % 256 = 0x03 ∨ w.toNat % 256 = 0x05) ∧ w.toNat / 2 ^ 32 ≠ 0)) ∧
    ∀ (s : State) (rest : List CmdWord), Ready s → s.cmdPort = w :: rest → (∃ why, decode w = .error why) →
      step s = .next { s with cmdPort := rest, result := .illegal, lastErr := none,
                              trace := s.trace ++ [.accept w, .complete .illegal] }

/-- R75: the assembler gives the word that decodes to the command, and refuses an operand out of range. -/
def Obligations.AssemblerKeepsOperandRange : Prop :=
  (∀ (i : Instr) (w : CmdWord), assemble i = some w → decode w = .ok i) ∧
  (∀ m : Nat, assemble (.setSpeed m) = none ↔ 2 ^ 32 ≤ m) ∧ (∀ m : Nat, assemble (.seqStep m) = none ↔ 2 ^ 32 ≤ m) ∧
  (∀ n : Int, assemble (.move n) = none ↔ n < -2 ^ 31 ∨ 2 ^ 31 ≤ n) ∧
  assemble .deenergize = some 0x0000000000000003 ∧ assemble .seqClear = some 0x0000000000000005

/-! ### The command port -/

/-- R66, R78: when the word at the port decodes to a command, the step is that command's exec, on the state with
the word taken and `Accept(word)` recorded. -/
def Obligations.StepRunsDecodedCommand : Prop :=
  ∀ (s : State) (w : CmdWord) (rest : List CmdWord) (i : Instr),
    s.resetIn = none → s.phase = .idle → s.cmdPort = w :: rest → decode w = .ok i →
      step s = exec i { s with cmdPort := rest, trace := s.trace ++ [.accept w] }

/-- R66: a word placed with withFetchWord is the one the very next step accepts and runs (log 3). -/
def Obligations.PlacedWordRunsNext : Prop :=
  ∀ (s : State) (nbits w : Nat) (i : Instr), decodeTableWord nbits w = some i →
    step (s.withFetchWord nbits w) =
      exec i { s.withFetchWord nbits w with cmdPort := s.cmdPort.tail,
                                            trace := s.trace ++ [.accept (tableWord nbits w)] }

/-- R66, R145: while BUSY, a word at the port is neither accepted nor lost. -/
def Obligations.WordHeldWhileBusy : Prop :=
  ∀ s t : State, s.resetIn = none → s.phase ≠ .idle → step s = .next t →
    t.cmdPort = s.cmdPort ∧ ∃ evs, t.trace = s.trace ++ evs ∧ ∀ e ∈ evs, e.isAccept = false

/-- R34, R66, R137: with no word at the port an IDLE block waits. The one thing that can happen is a late DelayDone,
which is ignored (log 6). -/
def Obligations.IdleWaitsForWord : Prop :=
  ∀ s : State, s.resetIn = none → s.phase = .idle → s.cmdPort = [] →
    step s = .next { s with lateDones := s.lateDones - 1 }

/-! ### The commands' accepting transitions -/

/-- R98: SET_SPEED completes OK with STEP_DELAY the left-to-right quotient, 0 when rpm or NUM_STEPS is 0, and
changes nothing else; no intermediate value overflows. -/
def Obligations.SetSpeedWritesStepDelay : Prop :=
  ∀ (rpm : Nat) (s : State), ∃ t, exec (.setSpeed rpm) s = .next t ∧
    t.stepDelay.toNat =
      (if rpm = 0 ∨ s.numSteps.toNat = 0 then 0 else 60000000 / s.numSteps.toNat / rpm) ∧
    60000000 / s.numSteps.toNat < 2 ^ 32 ∧ 60000000 / s.numSteps.toNat / rpm < 2 ^ 32 ∧
    t = { s with stepDelay := t.stepDelay, result := .ok, lastErr := none, phase := .idle, curOp := .none,
                 busy := false, pinCursor := 0, delayPending := false, trace := s.trace ++ [.complete .ok] }

/-- R99: the step delay is the quotient by the exact, unwrapped product NUM_STEPS · rpm. -/
def Obligations.StepDelayIsExactQuotient : Prop :=
  ∀ (rpm : Nat) (s : State), 0 < rpm → 0 < s.numSteps.toNat →
    ∃ t, exec (.setSpeed rpm) s = .next t ∧ t.stepDelay.toNat = 60000000 / (s.numSteps.toNat * rpm)

/-- R100: MOVE sets DIR and the exact magnitude (2^31 for -2^31 too, R119); MOVE 0 completes OK at once, any other
MOVE goes to DELAY_ISSUE. STEP_INDEX and everything else stay. -/
def Obligations.MoveAcceptSetsDirAndRemaining : Prop :=
  ∀ (n : Int) (s : State), (Instr.move n).wf = true →
    (n = 0 → exec (.move n) s =
      .next { s with dir := .forward, remaining := 0, result := .ok, lastErr := none, phase := .idle,
                     curOp := .none, busy := false, pinCursor := 0, delayPending := false,
                     trace := s.trace ++ [.complete .ok] }) ∧
    (n ≠ 0 → ∃ t, exec (.move n) s = .next t ∧ t.remaining.toNat = n.natAbs ∧
      t = { s with dir := (if n < 0 then .backward else .forward), remaining := t.remaining, curOp := .move,
                   phase := .delayIssue, busy := true })

/-- R117, R90: DEENERGIZE and SEQ_CLEAR start to drive the all-LOW pattern; they differ in CUR_OP only, and change
nothing but the FSM. -/
def Obligations.ClearCommandsStartDrive : Prop :=
  ∀ s : State,
    exec .deenergize s = .next { s with pattern := 0, pinCursor := 1, curOp := .deenergize, phase := .drive,
                                        busy := true } ∧
    exec .seqClear s = .next { s with pattern := 0, pinCursor := 1, curOp := .seqClear, phase := .drive,
                                      busy := true }

/-- R81, R82, R83, R84: SEQ_STEP loads the levels of row `i mod CYCLE` of its variant's table, whatever NUM_STEPS
and STEP_INDEX are, and changes nothing but the FSM (R86). -/
def Obligations.SeqStepLoadsTableRow : Prop :=
  ∀ (i : Nat) (s : State), ∃ t, exec (.seqStep i) s = .next t ∧
    t = { s with pattern := t.pattern, pinCursor := 1, curOp := .seqStep, phase := .drive, busy := true } ∧
    (s.variant = .p2 → [1, 2].map (levelOf t.pattern) =
      [[.low, .high], [.high, .high], [.high, .low], [.low, .low]].getD (i % 4) []) ∧
    (s.variant = .p4 → [1, 2, 3, 4].map (levelOf t.pattern) =
      [[.high, .low, .high, .low], [.low, .high, .high, .low], [.low, .high, .low, .high],
       [.high, .low, .low, .high]].getD (i % 4) []) ∧
    (s.variant = .p5 → [1, 2, 3, 4, 5].map (levelOf t.pattern) =
      [[.low, .high, .high, .low, .high], [.low, .high, .low, .low, .high], [.low, .high, .low, .high, .high],
       [.low, .high, .low, .high, .low], [.high, .high, .low, .high, .low], [.high, .low, .low, .high, .low],
       [.high, .low, .high, .high, .low], [.high, .low, .high, .low, .low], [.high, .low, .high, .low, .high],
       [.low, .low, .high, .low, .high]].getD (i % 10) [])

/-! ### The transitions after it -/

/-- R102: DELAY_ISSUE issues `DelayReq(STEP_DELAY)`, also for 0, and waits. Which answer the delay device will give
is not fixed (log 5). -/
def Obligations.DelayIssueRequestsStepDelay : Prop :=
  ∀ s : State, s.resetIn = none → s.phase = .delayIssue →
    ∃ t, step s = .next t ∧ t.delayDevice.isSome = true ∧
      t = { s with delayPending := true, phase := .delayWait, trace := s.trace ++ [.delayReq s.stepDelay],
                   delayAnswers := s.delayAnswers.tail, delayDraws := t.delayDraws, delayDevice := t.delayDevice }

/-- R103: DELAY_WAIT consumes DelayDone once the request is answered, and waits until then. How many steps that
takes, and that late answers pass by unnoticed, are the model's (log 5, log 6). -/
def Obligations.DelayWaitConsumesAnswer : Prop :=
  ∀ s : State, s.resetIn = none → s.phase = .delayWait → s.delayPending = true →
    (s.delayDevice = some (.after 0) →
      step s = .next { s with delayPending := false, phase := .advance, delayDevice := none,
                              trace := s.trace ++ [.delayDone] }) ∧
    (∀ n, s.delayDevice = some (.after (n + 1)) →
      step s = .next { s with delayDevice := some (.after n), lateDones := s.lateDones - 1 }) ∧
    (s.delayDevice = some .never → step s = .next { s with lateDones := s.lateDones - 1 })

/-- R104, R105, R106: ADVANCE writes nextIndex to STEP_INDEX and loads the pattern of the NEW index's row. -/
def Obligations.AdvanceMovesIndexAndLoadsRow : Prop :=
  ∀ s : State, s.resetIn = none → s.phase = .advance →
    ∃ t, step s = .next t ∧
      t = { s with stepIndex := t.stepIndex, pattern := patternOf s.variant t.stepIndex.toNat, pinCursor := 1,
                   phase := .drive } ∧
      (s.dir = .forward → t.stepIndex = if s.stepIndex + 1 = s.numSteps then 0 else s.stepIndex + 1) ∧
      (s.dir = .backward → t.stepIndex = (if s.stepIndex = 0 then s.numSteps else s.stepIndex) - 1) ∧
      (s.stepIndex.toNat < s.numSteps.toNat →
        t.stepIndex.toNat < s.numSteps.toNat ∧
        (s.dir = .forward → t.stepIndex.toNat = (s.stepIndex.toNat + 1) % s.numSteps.toNat) ∧
        (s.dir = .backward → t.stepIndex.toNat = (s.stepIndex.toNat + s.numSteps.toNat - 1) % s.numSteps.toNat)) ∧
      (s.numSteps = 0 →
        (s.dir = .forward → t.stepIndex.toNat = (s.stepIndex.toNat + 1) % 2 ^ 32) ∧
        (s.dir = .backward → t.stepIndex.toNat = (s.stepIndex.toNat + (2 ^ 32 - 1)) % 2 ^ 32))

/-- R91, R52: DRIVE writes the one pin under PIN_CURSOR to its level in PATTERN, uses one answer of the GPIO port,
and leaves every other pin alone; on Ok the pin has the level, on Err it is UNKNOWN. -/
def Obligations.DriveWritesOnePin : Prop :=
  ∀ s : State, s.Inv → s.resetIn = none → s.phase = .drive →
    ∃ t r evs, step s = .next t ∧
      t.trace = s.trace ++ .pinWrite s.pinCursor (if s.pattern.getLsbD (s.pinCursor - 1) then .high else .low) r
        :: evs ∧ (∀ e ∈ evs, e.isPinWrite = false) ∧
      (∀ a rest, s.gpioAnswers = a :: rest → r = a ∧ t.gpioAnswers = rest) ∧
      (r = .ok → readPin t s.pinCursor = if s.pattern.getLsbD (s.pinCursor - 1) then .high else .low) ∧
      (∀ e, r = .err e → readPin t s.pinCursor = .unknown) ∧
      (∀ k, k ≠ s.pinCursor → readPin t k = readPin s k)

/-- R92, R108: after Ok, DRIVE goes on to the next pin; after the last pin a sequencer command completes OK, and a
MOVE counts the physical step off and completes OK or goes on to the next delay. Only the answers the GPIO port still has
to give are not stated here. -/
def Obligations.DriveOkGoesOn : Prop :=
  ∀ s : State, s.Inv → s.resetIn = none → s.phase = .drive → pinAnswerOf s = .ok →
    ∃ t, step s = .next t ∧
      (s.pinCursor < s.variant.npins →
        t = { s with pinCursor := s.pinCursor + 1, trace := s.trace ++ [writeEvent s.pattern .ok s.pinCursor],
                     pins := s.pins.set (s.pinCursor - 1) (PinLevel.ofLevel (levelOf s.pattern s.pinCursor)),
                     gpioAnswers := t.gpioAnswers, pinDraws := t.pinDraws }) ∧
      (s.pinCursor = s.variant.npins → s.curOp ≠ .move →
        t = { s with pinCursor := 0, phase := .idle, curOp := .none, busy := false, result := .ok, lastErr := none,
                     trace := s.trace ++ [writeEvent s.pattern .ok s.pinCursor, .complete .ok],
                     pins := s.pins.set (s.pinCursor - 1) (PinLevel.ofLevel (levelOf s.pattern s.pinCursor)),
                     gpioAnswers := t.gpioAnswers, pinDraws := t.pinDraws }) ∧
      (s.pinCursor = s.variant.npins → s.curOp = .move → s.remaining = 1 →
        t = { s with remaining := 0, pinCursor := 0, phase := .idle, curOp := .none, busy := false, result := .ok,
                     lastErr := none,
                     trace := s.trace ++ [writeEvent s.pattern .ok s.pinCursor, .complete .ok],
                     pins := s.pins.set (s.pinCursor - 1) (PinLevel.ofLevel (levelOf s.pattern s.pinCursor)),
                     gpioAnswers := t.gpioAnswers, pinDraws := t.pinDraws }) ∧
      (s.pinCursor = s.variant.npins → s.curOp = .move → s.remaining ≠ 1 →
        t = { s with remaining := s.remaining - 1, pinCursor := 0, phase := .delayIssue,
                     trace := s.trace ++ [writeEvent s.pattern .ok s.pinCursor],
                     pins := s.pins.set (s.pinCursor - 1) (PinLevel.ofLevel (levelOf s.pattern s.pinCursor)),
                     gpioAnswers := t.gpioAnswers, pinDraws := t.pinDraws })

/-- R93, R109: after Err(e) the command ends with PIN_FAIL(e) in that transition. STEP_INDEX is not rolled back,
REMAINING is not decremented, DIR stays, the failing pin is UNKNOWN and the later pins are not written. -/
def Obligations.DriveErrEndsCommand : Prop :=
  ∀ (s : State) (e : PinError), s.Inv → s.resetIn = none → s.phase = .drive → pinAnswerOf s = .err e →
    ∃ t, step s = .next t ∧
      t = { s with result := .pinFail, lastErr := some e, phase := .idle, curOp := .none, busy := false,
                   pinCursor := 0, delayPending := false, pins := s.pins.set (s.pinCursor - 1) .unknown,
                   gpioAnswers := t.gpioAnswers, pinDraws := t.pinDraws,
                   trace := s.trace ++ [writeEvent s.pattern (.err e) s.pinCursor, .complete (.pinFail e)] }

/-- R154: a delay that never answers keeps the block in DELAY_WAIT for ever; that is a hang, not a fault. Two clauses
are the model's choice and not R154's: that the device's answer 'never' is this hang (log 5), and that the late
DelayDone of an abandoned request, which passes by while the newer request is pending, does not end the wait
(log 6). -/
def Obligations.UnansweredDelayHangs : Prop :=
  ∀ (s : State) (k : Nat), s.Inv → s.resetIn = none → s.phase = .delayWait → s.delayDevice = some .never →
    ∃ t, core.run k s = .next t ∧ t = { s with lateDones := s.lateDones - k }

/-! ### Whole commands -/

/-- R94: how DEENERGIZE, SEQ_STEP and SEQ_CLEAR end. With OK after exactly NPINS pin writes, all answered Ok; or
with PIN_FAIL(e) after the k-th, the first one answered Err, e being its answer. Pins before the failing one carry
the pattern, the failing one is UNKNOWN, the later ones keep their levels (R93). -/
def Obligations.SequencerCommandOutcome : Prop :=
  ∀ (i : Instr) (s s1 t : State) (k : Nat), Ready s → drivesOnce i = true → exec i s = .next s1 → EndsIn k s1 t →
    (t.result = .ok ∧ k = s.variant.npins ∧
      t.trace = s.trace ++ (pinOrder s.variant.npins).map (writeEvent (patternWritten s.variant i) .ok)
        ++ [.complete .ok] ∧
      ∀ p ∈ pinOrder s.variant.npins,
        readPin t p = PinLevel.ofLevel (levelOf (patternWritten s.variant i) p)) ∨
    (∃ e, t.result = .pinFail ∧ t.lastErr = some e ∧ 1 ≤ k ∧ k ≤ s.variant.npins ∧
      t.trace = s.trace ++ (pinOrder (k - 1)).map (writeEvent (patternWritten s.variant i) .ok)
        ++ [writeEvent (patternWritten s.variant i) (.err e) k, .complete (.pinFail e)] ∧
      (∀ p, 1 ≤ p → p < k → readPin t p = PinLevel.ofLevel (levelOf (patternWritten s.variant i) p)) ∧
      readPin t k = .unknown ∧ ∀ p, k < p → readPin t p = readPin s p)

/-- R154: DEENERGIZE, SEQ_STEP and SEQ_CLEAR always end, after at most NPINS transitions beyond the accepting one
(the GPIO port always answers, R51). -/
def Obligations.SequencerCommandEnds : Prop :=
  ∀ (i : Instr) (s : State), Ready s → drivesOnce i = true →
    ∃ s1 k t, exec i s = .next s1 ∧ k ≤ s.variant.npins ∧ EndsIn k s1 t

/-- R86, R90, R117, R118, R150: DEENERGIZE, SEQ_STEP and SEQ_CLEAR leave STEP_INDEX, DIR, STEP_DELAY and REMAINING
alone, also when they fail, and issue no DelayReq; after DEENERGIZE or SEQ_CLEAR with OK every pin is LOW. -/
def Obligations.SequencerCommandsKeepPosition : Prop :=
  ∀ (i : Instr) (s t : State), Ready s → drivesOnce i = true → Ends i s t →
    t.stepIndex = s.stepIndex ∧ t.dir = s.dir ∧ t.stepDelay = s.stepDelay ∧ t.remaining = s.remaining ∧
    t.variant = s.variant ∧ t.numSteps = s.numSteps ∧ t.cmdPort = s.cmdPort ∧ t.delayAnswers = s.delayAnswers ∧
    (∃ evs, t.trace = s.trace ++ evs ∧ ∀ e ∈ evs, e.isDelayReq = false) ∧
    (i = .deenergize ∨ i = .seqClear → t.result = .ok → t.pins = List.replicate s.variant.npins .low)

/-- R111: where a MOVE that ends OK leaves the block: STEP_INDEX is `(s + n) mod N` on mathematical integers
(nextIndex applied |n| times, for every N), REMAINING is 0, and the pins carry the row of STEP_INDEX. -/
def Obligations.MoveEndsOk : Prop :=
  ∀ (n : Int) (s t : State), Ready s → (Instr.move n).wf = true → Ends (.move n) s t → t.result = .ok →
    t.stepIndex = indexAfter (if n < 0 then .backward else .forward) s.numSteps n.natAbs s.stepIndex ∧
    (s.numSteps ≠ 0 → (t.stepIndex.toNat : Int) = ((s.stepIndex.toNat : Int) + n) % (s.numSteps.toNat : Int)) ∧
    t.remaining = 0 ∧ t.dir = (if n < 0 then .backward else .forward) ∧ t.stepDelay = s.stepDelay ∧
    t.variant = s.variant ∧ t.numSteps = s.numSteps ∧ t.lastErr = none ∧
    (n ≠ 0 → ∀ p ∈ pinOrder s.variant.npins,
      readPin t p = PinLevel.ofLevel (levelOf (patternOf s.variant t.stepIndex.toNat) p)) ∧
    (n = 0 → t.pins = s.pins)

/-- R111, R109: where a MOVE of magnitude m that fails in its step j leaves the block: STEP_INDEX advanced j times
and not rolled back, REMAINING m - j + 1, and LAST_ERR an error. -/
def Obligations.MoveEndsFailed : Prop :=
  ∀ (n : Int) (s t : State), Ready s → (Instr.move n).wf = true → Ends (.move n) s t → t.result ≠ .ok →
    ∃ j e, 1 ≤ j ∧ j ≤ n.natAbs ∧ t.result = .pinFail ∧ t.lastErr = some e ∧
      t.stepIndex = indexAfter (if n < 0 then .backward else .forward) s.numSteps j s.stepIndex ∧
      t.remaining.toNat = n.natAbs - j + 1 ∧ t.dir = (if n < 0 then .backward else .forward) ∧
      t.stepDelay = s.stepDelay

/-- R110: the events of a MOVE of magnitude m > 0. Ended OK: m DelayReq, m DelayDone and m·NPINS PinWrite events.
Failed in step j at pin k: j DelayReq, j DelayDone and (j-1)·NPINS + k PinWrite events. -/
def Obligations.MoveEventCounts : Prop :=
  ∀ (n : Int) (s t : State), Ready s → (Instr.move n).wf = true → n ≠ 0 → Ends (.move n) s t →
    ∃ evs, t.trace = s.trace ++ evs ∧
      (t.result = .ok → evs.countP Event.isDelayReq = n.natAbs ∧ evs.countP Event.isDelayDone = n.natAbs ∧
        evs.countP Event.isPinWrite = n.natAbs * s.variant.npins) ∧
      (t.result ≠ .ok → ∃ j k, 1 ≤ j ∧ j ≤ n.natAbs ∧ 1 ≤ k ∧ k ≤ s.variant.npins ∧
        evs.countP Event.isDelayReq = j ∧ evs.countP Event.isDelayDone = j ∧
        evs.countP Event.isPinWrite = (j - 1) * s.variant.npins + k ∧
        t.remaining.toNat = n.natAbs - j + 1)

/-- R113: the transitions of a MOVE do what `moveBig` does with the answers of the GPIO port: the same events in the
same order, the same end state and result. -/
def Obligations.MoveFollowsReference : Prop :=
  ∀ (n : Int) (s t : State) (r : MoveRun), Ready s → (Instr.move n).wf = true → Ends (.move n) s t →
    moveBig s n s.gpioAnswers = some r →
      t.trace = s.trace ++ r.events ++ [.complete r.completion] ∧ t.stepIndex = r.stepIndex ∧
      t.remaining.toNat = r.remaining ∧ t.result = r.completion.code ∧ t.lastErr = r.completion.err ∧
      t.gpioAnswers = r.rest ∧ t.dir = (if n < 0 then .backward else .forward)

/-- R154: under its fairness assumption (the delay device answers each of the MOVE's requests, after whatever time)
every MOVE ends. -/
def Obligations.MoveEndsWhenDelaysAnswer : Prop :=
  ∀ (n : Int) (s : State), Ready s → (Instr.move n).wf = true → n.natAbs ≤ s.delayAnswers.length →
    (∀ a ∈ s.delayAnswers.take n.natAbs, a ≠ .never) → ∃ t, Ends (.move n) s t

/-- R154: counting the accepting one, a MOVE of magnitude m that ends OK takes 1 + m·(NPINS + 3) transitions (with a
delay device whose answer is there at once, so that no step is a wait), and a failed one no more. -/
def Obligations.MoveTransitionCount : Prop :=
  ∀ (n : Int) (s s1 t : State) (k : Nat), Ready s → (Instr.move n).wf = true →
    n.natAbs ≤ s.delayAnswers.length → (∀ a ∈ s.delayAnswers.take n.natAbs, a = .after 0) →
    exec (.move n) s = .next s1 → EndsIn k s1 t →
      (t.result = .ok → 1 + k = 1 + n.natAbs * (s.variant.npins + 3)) ∧
      (t.result ≠ .ok → 1 + k ≤ 1 + n.natAbs * (s.variant.npins + 3))

/-- R114: for NUM_STEPS = N > 0, a successful MOVE N and a successful MOVE -N return STEP_INDEX to its start. -/
def Obligations.FullCycleReturns : Prop :=
  ∀ (n : Int) (s t : State), Ready s → (Instr.move n).wf = true → s.numSteps ≠ 0 →
    n = (s.numSteps.toNat : Int) ∨ n = -(s.numSteps.toNat : Int) → Ends (.move n) s t → t.result = .ok →
      t.stepIndex = s.stepIndex

/-- R115: for N > 0 and |n| < 2^31, a successful MOVE -n and then a successful MOVE n restore STEP_INDEX. -/
def Obligations.DirectionSymmetry : Prop :=
  ∀ (n : Int) (s t u : State), Ready s → s.numSteps ≠ 0 → -(2 ^ 31 - 1) ≤ n → n ≤ 2 ^ 31 - 1 →
    Ends (.move (-n)) s t → t.result = .ok → Ends (.move n) t u → u.result = .ok →
      u.stepIndex = s.stepIndex ∧ u.dir = (if 0 ≤ n then .forward else .backward)

/-! ### Reset and the read port -/

/-- R138, R139: reset, from any state, BUSY or not (R140). No pin is written, no delay requested and no result
reported; every pin is UNKNOWN after it. -/
def Obligations.ResetFromAnyState : Prop :=
  ∀ (s : State) (v : Variant) (n : U32), s.resetIn = some ⟨some v, n⟩ →
    ∃ t, step s = .next t ∧ t.numSteps = n ∧ t.variant = v ∧ t.stepIndex = 0 ∧ t.dir = .forward ∧
      t.stepDelay = 0 ∧ t.remaining = 0 ∧ t.phase = .idle ∧ t.curOp = .none ∧ t.busy = false ∧ t.pinCursor = 0 ∧
      t.pattern = 0 ∧ t.delayPending = false ∧ t.result = .none ∧ t.lastErr = none ∧
      t.trace = s.trace ++ [.reset] ∧ t.pins.length = v.npins ∧ (∀ k, readPin t k = .unknown)

/-- The model's choice (log 10): a reset takes nothing from the outside world. A word held at the port and the
answers still to come are there after it; the asserted reset is taken, and the pending delay is abandoned (R140). -/
def Obligations.ResetKeepsOutsideWorld : Prop :=
  ∀ (s t : State) (r : ResetInput), s.resetIn = some r → step s = .next t →
    t.cmdPort = s.cmdPort ∧ t.gpioAnswers = s.gpioAnswers ∧ t.pinDraws = s.pinDraws ∧
    t.delayAnswers = s.delayAnswers ∧ t.delayDraws = s.delayDraws ∧ t.resetIn = none ∧ t.delayDevice = none ∧
    s.lateDones ≤ t.lateDones ∧ t.lateDones ≤ s.lateDones + 1

/-- R9: a reset with a VARIANT that is none of P2, P4 and P5 is refused, whatever the state. -/
def Obligations.OtherVariantRefused : Prop :=
  ∀ (s : State) (n : U32), s.resetIn = some ⟨none, n⟩ → step s = .refused .variantNotConfigurable

/-- R34, R140: the DelayDone of a request that a reset abandoned is ignored. A reset in DELAY_WAIT leaves one late
answer if the device will still answer, and the IDLE block that gets it changes in nothing else (log 6). -/
def Obligations.AbandonedDelayIgnored : Prop :=
  ∀ (s : State) (v : Variant) (n : U32) (m : Nat), s.resetIn = some ⟨some v, n⟩ → s.phase = .delayWait →
    s.delayDevice = some (.after m) → s.cmdPort = [] →
    ∃ t, step s = .next t ∧ t.lateDones = s.lateDones + 1 ∧ t.delayPending = false ∧
      step t = .next { t with lateDones := s.lateDones }

/-- R39, R41, R42, R43: what each register of the read port reads in every state. -/
def Obligations.ReadPortRegisters : Prop :=
  ∀ (s : State) (reg : BitVec 8),
    (readReg s 0x00).toNat =
      (match s.curOp with | .none => 0 | .move => 1 | .deenergize => 2 | .seqStep => 3 | .seqClear => 4) * 2 ^ 8 +
      (match s.phase with | .idle => 0 | .delayIssue => 1 | .delayWait => 2 | .advance => 3 | .drive => 4) * 2 ^ 4 +
      (match s.result with | .none => 0 | .ok => 1 | .pinFail => 2 | .illegal => 3) * 2 +
      (if s.busy then 1 else 0) ∧
    readReg s 0x01 = s.numSteps ∧ readReg s 0x02 = s.stepIndex ∧
    (readReg s 0x03).toNat = (match s.dir with | .forward => 0 | .backward => 1) ∧
    readReg s 0x04 = s.stepDelay ∧
    readReg s 0x05 = (match s.variant with | .p2 => 0x00000402 | .p4 => 0x00000404 | .p5 => 0x00000A05) ∧
    readReg s 0x06 = s.remaining ∧
    readReg s 0x07 = (match s.lastErr with | some e => Config.errCode e | none => 0) ∧
    (8 ≤ reg.toNat → readReg s reg = 0)

/-- R39, R45: what the read port reads right after reset, for every configuration; State.reset is the one of the
free constants of Config (log 8). -/
def Obligations.RegistersAfterReset : Prop :=
  (∀ (v : Variant) (n : U32) (reg : BitVec 8),
    readReg (State.construct v n) reg =
      if reg = 0x01 then n
      else if reg = 0x05 then (match v with | .p2 => 0x00000402 | .p4 => 0x00000404 | .p5 => 0x00000A05)
      else 0) ∧
  State.reset = State.construct Config.variant Config.numSteps

/-- R49, R40: over a byte-wide transport a register value goes least significant byte first, and the four bytes are
read back to the value, with the bytes after them left. -/
def Obligations.RegisterTransportIsLittleEndian : Prop :=
  ∀ (s : State) (reg : BitVec 8) (rest : List Byte),
    (readRegBytes s reg).length = 4 ∧
    (∀ k < 4, ((readRegBytes s reg).getD k 0).toNat = (readReg s reg).toNat / 256 ^ k % 256) ∧
    registerOfBytes (readRegBytes s reg ++ rest) = some (readReg s reg, rest)

/-- R63, R39, R66: whatever PLATFORM_MAP is, a platform reads the register placed at an address and nothing
elsewhere, and a write reaches only the command port, where it offers the word if none is held and changes nothing
else; an IDLE block with no reset asserted runs the offered command in its next step. That these two are the platform's
accesses is the model's (log 20). -/
def Obligations.PlatformMapPlacesPorts : Prop :=
  ∀ (m : PlatformMap) (a : Nat) (w : CmdWord) (s : State),
    (∀ v, platformRead m a s = some v ↔ ∃ reg, m a = some (.register reg) ∧ v = readReg s reg) ∧
    (∀ t, platformWrite m a w s = some t ↔
      m a = some .commandPort ∧ s.cmdPort = [] ∧ t = { s with cmdPort := [w] }) ∧
    (∀ t i, platformWrite m a w s = some t → s.resetIn = none → s.phase = .idle → decode w = .ok i →
      step t = exec i { s with trace := s.trace ++ [.accept w] })

/-! ### What every step keeps -/

/-- R25, R28 to R36, R38: every step keeps the block in a legal state. -/
def Obligations.StepKeepsLegal : Prop :=
  ∀ s t : State, s.Inv → step s = .next t → t.Inv

/-- R138: the block is legal right after reset, for every configuration. -/
def Obligations.ResetIsLegal : Prop :=
  (∀ (v : Variant) (n : U32), (State.construct v n).Inv) ∧ State.reset.Inv

/-- R31, R51: a legal block that is not given an unconfigurable reset always takes a step: neither of the model's
faults can happen (log 14). -/
def Obligations.LegalBlockNeverStops : Prop :=
  ∀ s : State, s.Inv → (∀ r, s.resetIn = some r → r.variant ≠ none) → ∃ t, step s = .next t

/-- R22, R26: nothing but reset writes VARIANT and NUM_STEPS. -/
def Obligations.ConfigurationNeverChanges : Prop :=
  ∀ s t : State, s.resetIn = none → step s = .next t → t.variant = s.variant ∧ t.numSteps = s.numSteps

/-- R20, R23, R24, R25, R28: which transitions write the controller's registers. -/
def Obligations.ControllerRegisterWriters : Prop :=
  ∀ s t : State, s.resetIn = none → step s = .next t →
    (t.stepIndex ≠ s.stepIndex → s.phase = .advance) ∧
    (t.dir ≠ s.dir → s.phase = .idle ∧ ∃ w rest n, s.cmdPort = w :: rest ∧ decode w = .ok (.move n)) ∧
    (t.stepDelay ≠ s.stepDelay →
      s.phase = .idle ∧ ∃ w rest rpm, s.cmdPort = w :: rest ∧ decode w = .ok (.setSpeed rpm)) ∧
    (t.remaining ≠ s.remaining →
      (s.phase = .idle ∧ ∃ w rest n, s.cmdPort = w :: rest ∧ decode w = .ok (.move n)) ∨
      (s.phase = .drive ∧ s.curOp = .move ∧ s.pinCursor = s.variant.npins ∧ pinAnswerOf s = .ok))

/-- R36, R37: RESULT and LAST_ERR change only where a command completes, and then they are that command's; while it
runs they still describe the one before. -/
def Obligations.ResultOnlyAtCompletion : Prop :=
  ∀ s t : State, s.resetIn = none → step s = .next t →
    (t.result = s.result ∧ t.lastErr = s.lastErr ∧
      ∃ evs, t.trace = s.trace ++ evs ∧ ∀ e ∈ evs, e.isComplete = false) ∨
    (∃ c evs, t.trace = s.trace ++ evs ++ [.complete c] ∧ (∀ e ∈ evs, e.isComplete = false) ∧
      t.phase = .idle ∧ t.curOp = .none ∧ t.busy = false ∧ t.pinCursor = 0 ∧ t.delayPending = false ∧
      ((c = .ok ∧ t.result = .ok ∧ t.lastErr = none) ∨
       (c = .illegal ∧ t.result = .illegal ∧ t.lastErr = none) ∨
       (∃ e, c = .pinFail e ∧ t.result = .pinFail ∧ t.lastErr = some e)))

/-- R120, R122: a command ends with PIN_FAIL(e) only where the GPIO port has just answered Err(e), and the error is
passed on unchanged. -/
def Obligations.PinFailIsPassThrough : Prop :=
  ∀ (s t : State) (e : PinError), s.resetIn = none → step s = .next t →
    (∃ evs, t.trace = s.trace ++ evs ++ [.complete (.pinFail e)]) → s.phase = .drive ∧ pinAnswerOf s = .err e

/-- R58: a step only appends to the trace, at most two events. -/
def Obligations.TraceOnlyGrows : Prop :=
  ∀ s t : State, step s = .next t → ∃ evs, t.trace = s.trace ++ evs ∧ evs.length ≤ 2

/-- R38, R52: PINLVL is what the trace says: the level of the last successful write of the pin since the last
reset, UNKNOWN after a failed write and after every reset. Every step keeps that. -/
def Obligations.PinsFollowTrace : Prop :=
  ∀ s t : State, s.Inv → (∀ k, 1 ≤ k → readPin s k = tracePin k s.trace) → step s = .next t →
    ∀ k, 1 ≤ k → readPin t k = tracePin k t.trace

/-- R38, R53, R88: the block never reads a pin. Two states that differ in the pin levels only take the same step,
and differ in the pin levels only after it. -/
def Obligations.PinsAreNeverRead : Prop :=
  ∀ (s t : State) (ps : List PinLevel), step s = .next t →
    ∃ qs, step { s with pins := ps } = .next { t with pins := qs }
end

