-- ==== Sys2Proof/Laws/Decode.lean ====
section
/-! SUPPORT. The fields of a command word, and what decoding can answer. -/

namespace Sys2Proof

/-- The bits of an encoded command (R77): OPC, then the zero RSV, then OPERAND. -/
theorem encode_getLsbD (i : Instr) (k : Nat) :
    (encode i).getLsbD k =
      if k < 8 then i.opcode.getLsbD k else if k < 32 then false else i.operandBits.getLsbD (k - 32) := by
  have h1 := BitVec.getLsbD_append (x := i.operandBits ++ (0 : BitVec 24)) (y := i.opcode) (i := k)
  have h2 := BitVec.getLsbD_append (x := i.operandBits) (y := (0 : BitVec 24)) (i := k - 8)
  rw [encode]
  refine h1.trans ?_
  rw [h2, show k - 8 - 24 = k - 32 by omega]
  have hz : BitVec.getLsbD (0 : BitVec 24) (k - 8) = false := by simp
  rw [hz]
  split
  · rfl
  · by_cases h32 : k < 32
    · rw [if_pos h32, if_pos (by omega)]
    · rw [if_neg h32, if_neg (by omega)]

@[simp] theorem opcField_encode (i : Instr) : opcField (encode i) = i.opcode := by
  apply BitVec.eq_of_getLsbD_eq
  intro k hk
  simp [opcField, encode_getLsbD, hk]

@[simp] theorem rsvField_encode (i : Instr) : rsvField (encode i) = 0 := by
  apply BitVec.eq_of_getLsbD_eq
  intro k hk
  have h8 : ¬ 8 + k < 8 := by omega
  have h32 : 8 + k < 32 := by omega
  simp [rsvField, encode_getLsbD, h8, h32]

@[simp] theorem operandField_encode (i : Instr) : operandField (encode i) = i.operandBits := by
  apply BitVec.eq_of_getLsbD_eq
  intro k hk
  have h8 : ¬ 32 + k < 8 := by omega
  have h32 : ¬ 32 + k < 32 := by omega
  simp [operandField, encode_getLsbD, h8, hk]

/-- MOVE's operand is the two's-complement reading (R68). -/
theorem signedOperand_eq_toInt (op : U32) : signedOperand op = op.toInt := by
  rw [signedOperand, BitVec.toInt_eq_msb_cond]
  rfl

/-- What `decode` can answer: R78 as a case analysis. -/
theorem decode_ok_cases {w : CmdWord} {i : Instr} (h : decode w = .ok i) :
    rsvField w = 0 ∧
      ((opcField w = 0x01 ∧ i = .setSpeed (operandField w).toNat) ∨
       (opcField w = 0x02 ∧ i = .move (signedOperand (operandField w))) ∨
       (opcField w = 0x03 ∧ operandField w = 0 ∧ i = .deenergize) ∨
       (opcField w = 0x04 ∧ i = .seqStep (operandField w).toNat) ∨
       (opcField w = 0x05 ∧ operandField w = 0 ∧ i = .seqClear)) := by
  simp only [decode] at h
  split at h
  · cases h
  · rename_i hr
    refine ⟨by simpa using hr, ?_⟩
    repeat' split at h
    all_goals first
      | (cases h; done)
      | (injection h with h; subst h; simp_all)

/-- A decoded command is well formed (R68, R75). -/
theorem decode_wf {w : CmdWord} {i : Instr} (h : decode w = .ok i) : i.wf = true := by
  obtain ⟨-, ⟨-, rfl⟩ | ⟨-, rfl⟩ | ⟨-, -, rfl⟩ | ⟨-, rfl⟩ | ⟨-, -, rfl⟩⟩ := decode_ok_cases h
  · simpa [Instr.wf] using (operandField w).isLt
  · rw [signedOperand_eq_toInt]
    have h1 := BitVec.le_toInt (operandField w)
    have h2 := BitVec.toInt_lt (x := operandField w)
    simp only [Instr.wf, Bool.and_eq_true, decide_eq_true_eq]
    constructor <;> simpa using ‹_›
  · rfl
  · simpa [Instr.wf] using (operandField w).isLt
  · rfl

end Sys2Proof
end

