-- ==== Sys2Proof/Laws/State.lean ====
section
/-! SUPPORT. What each shared operation leaves in each field of State: one lemma per field, so that no proof
unfolds a record update. -/

namespace Sys2Proof.Machine

variable (s : State)

/-! ### One event more (R58) -/

@[simp] theorem emit_variant (e : Event) : (emit e s).variant = s.variant := rfl
@[simp] theorem emit_numSteps (e : Event) : (emit e s).numSteps = s.numSteps := rfl
@[simp] theorem emit_stepIndex (e : Event) : (emit e s).stepIndex = s.stepIndex := rfl
@[simp] theorem emit_dir (e : Event) : (emit e s).dir = s.dir := rfl
@[simp] theorem emit_stepDelay (e : Event) : (emit e s).stepDelay = s.stepDelay := rfl
@[simp] theorem emit_remaining (e : Event) : (emit e s).remaining = s.remaining := rfl
@[simp] theorem emit_phase (e : Event) : (emit e s).phase = s.phase := rfl
@[simp] theorem emit_curOp (e : Event) : (emit e s).curOp = s.curOp := rfl
@[simp] theorem emit_pinCursor (e : Event) : (emit e s).pinCursor = s.pinCursor := rfl
@[simp] theorem emit_pattern (e : Event) : (emit e s).pattern = s.pattern := rfl
@[simp] theorem emit_busy (e : Event) : (emit e s).busy = s.busy := rfl
@[simp] theorem emit_result (e : Event) : (emit e s).result = s.result := rfl
@[simp] theorem emit_lastErr (e : Event) : (emit e s).lastErr = s.lastErr := rfl
@[simp] theorem emit_delayPending (e : Event) : (emit e s).delayPending = s.delayPending := rfl
@[simp] theorem emit_pins (e : Event) : (emit e s).pins = s.pins := rfl
@[simp] theorem emit_trace (e : Event) : (emit e s).trace = s.trace ++ [e] := rfl
@[simp] theorem emit_resetIn (e : Event) : (emit e s).resetIn = s.resetIn := rfl
@[simp] theorem emit_cmdPort (e : Event) : (emit e s).cmdPort = s.cmdPort := rfl
@[simp] theorem emit_gpioAnswers (e : Event) : (emit e s).gpioAnswers = s.gpioAnswers := rfl
@[simp] theorem emit_pinDraws (e : Event) : (emit e s).pinDraws = s.pinDraws := rfl
@[simp] theorem emit_delayAnswers (e : Event) : (emit e s).delayAnswers = s.delayAnswers := rfl
@[simp] theorem emit_delayDraws (e : Event) : (emit e s).delayDraws = s.delayDraws := rfl
@[simp] theorem emit_delayDevice (e : Event) : (emit e s).delayDevice = s.delayDevice := rfl
@[simp] theorem emit_lateDones (e : Event) : (emit e s).lateDones = s.lateDones := rfl

/-! ### The end of a command (R37) -/

@[simp] theorem complete_variant (r : Completion) : (complete r s).variant = s.variant := rfl
@[simp] theorem complete_numSteps (r : Completion) : (complete r s).numSteps = s.numSteps := rfl
@[simp] theorem complete_stepIndex (r : Completion) : (complete r s).stepIndex = s.stepIndex := rfl
@[simp] theorem complete_dir (r : Completion) : (complete r s).dir = s.dir := rfl
@[simp] theorem complete_stepDelay (r : Completion) : (complete r s).stepDelay = s.stepDelay := rfl
@[simp] theorem complete_remaining (r : Completion) : (complete r s).remaining = s.remaining := rfl
@[simp] theorem complete_phase (r : Completion) : (complete r s).phase = .idle := rfl
@[simp] theorem complete_curOp (r : Completion) : (complete r s).curOp = .none := rfl
@[simp] theorem complete_pinCursor (r : Completion) : (complete r s).pinCursor = 0 := rfl
@[simp] theorem complete_pattern (r : Completion) : (complete r s).pattern = s.pattern := rfl
@[simp] theorem complete_busy (r : Completion) : (complete r s).busy = false := rfl
@[simp] theorem complete_result (r : Completion) : (complete r s).result = r.code := rfl
@[simp] theorem complete_lastErr (r : Completion) : (complete r s).lastErr = r.err := rfl
@[simp] theorem complete_delayPending (r : Completion) : (complete r s).delayPending = false := rfl
@[simp] theorem complete_pins (r : Completion) : (complete r s).pins = s.pins := rfl
@[simp] theorem complete_trace (r : Completion) : (complete r s).trace = s.trace ++ [.complete r] := rfl
@[simp] theorem complete_resetIn (r : Completion) : (complete r s).resetIn = s.resetIn := rfl
@[simp] theorem complete_cmdPort (r : Completion) : (complete r s).cmdPort = s.cmdPort := rfl
@[simp] theorem complete_gpioAnswers (r : Completion) : (complete r s).gpioAnswers = s.gpioAnswers := rfl
@[simp] theorem complete_pinDraws (r : Completion) : (complete r s).pinDraws = s.pinDraws := rfl
@[simp] theorem complete_delayAnswers (r : Completion) : (complete r s).delayAnswers = s.delayAnswers := rfl
@[simp] theorem complete_delayDraws (r : Completion) : (complete r s).delayDraws = s.delayDraws := rfl
@[simp] theorem complete_delayDevice (r : Completion) : (complete r s).delayDevice = s.delayDevice := rfl
@[simp] theorem complete_lateDones (r : Completion) : (complete r s).lateDones = s.lateDones := rfl

/-! ### One pin level (R52) -/

@[simp] theorem setPin_variant (k : Nat) (l : PinLevel) : (setPin k l s).variant = s.variant := rfl
@[simp] theorem setPin_numSteps (k : Nat) (l : PinLevel) : (setPin k l s).numSteps = s.numSteps := rfl
@[simp] theorem setPin_stepIndex (k : Nat) (l : PinLevel) : (setPin k l s).stepIndex = s.stepIndex := rfl
@[simp] theorem setPin_dir (k : Nat) (l : PinLevel) : (setPin k l s).dir = s.dir := rfl
@[simp] theorem setPin_stepDelay (k : Nat) (l : PinLevel) : (setPin k l s).stepDelay = s.stepDelay := rfl
@[simp] theorem setPin_remaining (k : Nat) (l : PinLevel) : (setPin k l s).remaining = s.remaining := rfl
@[simp] theorem setPin_phase (k : Nat) (l : PinLevel) : (setPin k l s).phase = s.phase := rfl
@[simp] theorem setPin_curOp (k : Nat) (l : PinLevel) : (setPin k l s).curOp = s.curOp := rfl
@[simp] theorem setPin_pinCursor (k : Nat) (l : PinLevel) : (setPin k l s).pinCursor = s.pinCursor := rfl
@[simp] theorem setPin_pattern (k : Nat) (l : PinLevel) : (setPin k l s).pattern = s.pattern := rfl
@[simp] theorem setPin_busy (k : Nat) (l : PinLevel) : (setPin k l s).busy = s.busy := rfl
@[simp] theorem setPin_result (k : Nat) (l : PinLevel) : (setPin k l s).result = s.result := rfl
@[simp] theorem setPin_lastErr (k : Nat) (l : PinLevel) : (setPin k l s).lastErr = s.lastErr := rfl
@[simp] theorem setPin_delayPending (k : Nat) (l : PinLevel) : (setPin k l s).delayPending = s.delayPending := rfl
@[simp] theorem setPin_pins (k : Nat) (l : PinLevel) : (setPin k l s).pins = s.pins.set (k - 1) l := rfl
@[simp] theorem setPin_trace (k : Nat) (l : PinLevel) : (setPin k l s).trace = s.trace := rfl
@[simp] theorem setPin_resetIn (k : Nat) (l : PinLevel) : (setPin k l s).resetIn = s.resetIn := rfl
@[simp] theorem setPin_cmdPort (k : Nat) (l : PinLevel) : (setPin k l s).cmdPort = s.cmdPort := rfl
@[simp] theorem setPin_gpioAnswers (k : Nat) (l : PinLevel) : (setPin k l s).gpioAnswers = s.gpioAnswers := rfl
@[simp] theorem setPin_pinDraws (k : Nat) (l : PinLevel) : (setPin k l s).pinDraws = s.pinDraws := rfl
@[simp] theorem setPin_delayAnswers (k : Nat) (l : PinLevel) : (setPin k l s).delayAnswers = s.delayAnswers := rfl
@[simp] theorem setPin_delayDraws (k : Nat) (l : PinLevel) : (setPin k l s).delayDraws = s.delayDraws := rfl
@[simp] theorem setPin_delayDevice (k : Nat) (l : PinLevel) : (setPin k l s).delayDevice = s.delayDevice := rfl
@[simp] theorem setPin_lateDones (k : Nat) (l : PinLevel) : (setPin k l s).lateDones = s.lateDones := rfl

/-! ### The start of a DRIVE phase (R86, R104) -/

@[simp] theorem loadPattern_variant (p : BitVec 5) : (loadPattern p s).variant = s.variant := rfl
@[simp] theorem loadPattern_numSteps (p : BitVec 5) : (loadPattern p s).numSteps = s.numSteps := rfl
@[simp] theorem loadPattern_stepIndex (p : BitVec 5) : (loadPattern p s).stepIndex = s.stepIndex := rfl
@[simp] theorem loadPattern_dir (p : BitVec 5) : (loadPattern p s).dir = s.dir := rfl
@[simp] theorem loadPattern_stepDelay (p : BitVec 5) : (loadPattern p s).stepDelay = s.stepDelay := rfl
@[simp] theorem loadPattern_remaining (p : BitVec 5) : (loadPattern p s).remaining = s.remaining := rfl
@[simp] theorem loadPattern_phase (p : BitVec 5) : (loadPattern p s).phase = .drive := rfl
@[simp] theorem loadPattern_curOp (p : BitVec 5) : (loadPattern p s).curOp = s.curOp := rfl
@[simp] theorem loadPattern_pinCursor (p : BitVec 5) : (loadPattern p s).pinCursor = 1 := rfl
@[simp] theorem loadPattern_pattern (p : BitVec 5) : (loadPattern p s).pattern = p := rfl
@[simp] theorem loadPattern_busy (p : BitVec 5) : (loadPattern p s).busy = s.busy := rfl
@[simp] theorem loadPattern_result (p : BitVec 5) : (loadPattern p s).result = s.result := rfl
@[simp] theorem loadPattern_lastErr (p : BitVec 5) : (loadPattern p s).lastErr = s.lastErr := rfl
@[simp] theorem loadPattern_delayPending (p : BitVec 5) : (loadPattern p s).delayPending = s.delayPending := rfl
@[simp] theorem loadPattern_pins (p : BitVec 5) : (loadPattern p s).pins = s.pins := rfl
@[simp] theorem loadPattern_trace (p : BitVec 5) : (loadPattern p s).trace = s.trace := rfl
@[simp] theorem loadPattern_resetIn (p : BitVec 5) : (loadPattern p s).resetIn = s.resetIn := rfl
@[simp] theorem loadPattern_cmdPort (p : BitVec 5) : (loadPattern p s).cmdPort = s.cmdPort := rfl
@[simp] theorem loadPattern_gpioAnswers (p : BitVec 5) : (loadPattern p s).gpioAnswers = s.gpioAnswers := rfl
@[simp] theorem loadPattern_pinDraws (p : BitVec 5) : (loadPattern p s).pinDraws = s.pinDraws := rfl
@[simp] theorem loadPattern_delayAnswers (p : BitVec 5) : (loadPattern p s).delayAnswers = s.delayAnswers := rfl
@[simp] theorem loadPattern_delayDraws (p : BitVec 5) : (loadPattern p s).delayDraws = s.delayDraws := rfl
@[simp] theorem loadPattern_delayDevice (p : BitVec 5) : (loadPattern p s).delayDevice = s.delayDevice := rfl
@[simp] theorem loadPattern_lateDones (p : BitVec 5) : (loadPattern p s).lateDones = s.lateDones := rfl

/-! ### Accepting a sequencer command (R86, R90, R117) -/

@[simp] theorem startDrive_variant (op : CurOp) (p : BitVec 5) : (startDrive op p s).variant = s.variant := rfl
@[simp] theorem startDrive_numSteps (op : CurOp) (p : BitVec 5) : (startDrive op p s).numSteps = s.numSteps := rfl
@[simp] theorem startDrive_stepIndex (op : CurOp) (p : BitVec 5) : (startDrive op p s).stepIndex = s.stepIndex := rfl
@[simp] theorem startDrive_dir (op : CurOp) (p : BitVec 5) : (startDrive op p s).dir = s.dir := rfl
@[simp] theorem startDrive_stepDelay (op : CurOp) (p : BitVec 5) : (startDrive op p s).stepDelay = s.stepDelay := rfl
@[simp] theorem startDrive_remaining (op : CurOp) (p : BitVec 5) : (startDrive op p s).remaining = s.remaining := rfl
@[simp] theorem startDrive_phase (op : CurOp) (p : BitVec 5) : (startDrive op p s).phase = .drive := rfl
@[simp] theorem startDrive_curOp (op : CurOp) (p : BitVec 5) : (startDrive op p s).curOp = op := rfl
@[simp] theorem startDrive_pinCursor (op : CurOp) (p : BitVec 5) : (startDrive op p s).pinCursor = 1 := rfl
@[simp] theorem startDrive_pattern (op : CurOp) (p : BitVec 5) : (startDrive op p s).pattern = p := rfl
@[simp] theorem startDrive_busy (op : CurOp) (p : BitVec 5) : (startDrive op p s).busy = true := rfl
@[simp] theorem startDrive_result (op : CurOp) (p : BitVec 5) : (startDrive op p s).result = s.result := rfl
@[simp] theorem startDrive_lastErr (op : CurOp) (p : BitVec 5) : (startDrive op p s).lastErr = s.lastErr := rfl
@[simp] theorem startDrive_delayPending (op : CurOp) (p : BitVec 5) : (startDrive op p s).delayPending = s.delayPending := rfl
@[simp] theorem startDrive_pins (op : CurOp) (p : BitVec 5) : (startDrive op p s).pins = s.pins := rfl
@[simp] theorem startDrive_trace (op : CurOp) (p : BitVec 5) : (startDrive op p s).trace = s.trace := rfl
@[simp] theorem startDrive_resetIn (op : CurOp) (p : BitVec 5) : (startDrive op p s).resetIn = s.resetIn := rfl
@[simp] theorem startDrive_cmdPort (op : CurOp) (p : BitVec 5) : (startDrive op p s).cmdPort = s.cmdPort := rfl
@[simp] theorem startDrive_gpioAnswers (op : CurOp) (p : BitVec 5) : (startDrive op p s).gpioAnswers = s.gpioAnswers := rfl
@[simp] theorem startDrive_pinDraws (op : CurOp) (p : BitVec 5) : (startDrive op p s).pinDraws = s.pinDraws := rfl
@[simp] theorem startDrive_delayAnswers (op : CurOp) (p : BitVec 5) : (startDrive op p s).delayAnswers = s.delayAnswers := rfl
@[simp] theorem startDrive_delayDraws (op : CurOp) (p : BitVec 5) : (startDrive op p s).delayDraws = s.delayDraws := rfl
@[simp] theorem startDrive_delayDevice (op : CurOp) (p : BitVec 5) : (startDrive op p s).delayDevice = s.delayDevice := rfl
@[simp] theorem startDrive_lateDones (op : CurOp) (p : BitVec 5) : (startDrive op p s).lateDones = s.lateDones := rfl

/-! ### Waiting (R103, R137) -/

@[simp] theorem waitStep_variant : (waitStep s).variant = s.variant := rfl
@[simp] theorem waitStep_numSteps : (waitStep s).numSteps = s.numSteps := rfl
@[simp] theorem waitStep_stepIndex : (waitStep s).stepIndex = s.stepIndex := rfl
@[simp] theorem waitStep_dir : (waitStep s).dir = s.dir := rfl
@[simp] theorem waitStep_stepDelay : (waitStep s).stepDelay = s.stepDelay := rfl
@[simp] theorem waitStep_remaining : (waitStep s).remaining = s.remaining := rfl
@[simp] theorem waitStep_phase : (waitStep s).phase = s.phase := rfl
@[simp] theorem waitStep_curOp : (waitStep s).curOp = s.curOp := rfl
@[simp] theorem waitStep_pinCursor : (waitStep s).pinCursor = s.pinCursor := rfl
@[simp] theorem waitStep_pattern : (waitStep s).pattern = s.pattern := rfl
@[simp] theorem waitStep_busy : (waitStep s).busy = s.busy := rfl
@[simp] theorem waitStep_result : (waitStep s).result = s.result := rfl
@[simp] theorem waitStep_lastErr : (waitStep s).lastErr = s.lastErr := rfl
@[simp] theorem waitStep_delayPending : (waitStep s).delayPending = s.delayPending := rfl
@[simp] theorem waitStep_pins : (waitStep s).pins = s.pins := rfl
@[simp] theorem waitStep_trace : (waitStep s).trace = s.trace := rfl
@[simp] theorem waitStep_resetIn : (waitStep s).resetIn = s.resetIn := rfl
@[simp] theorem waitStep_cmdPort : (waitStep s).cmdPort = s.cmdPort := rfl
@[simp] theorem waitStep_gpioAnswers : (waitStep s).gpioAnswers = s.gpioAnswers := rfl
@[simp] theorem waitStep_pinDraws : (waitStep s).pinDraws = s.pinDraws := rfl
@[simp] theorem waitStep_delayAnswers : (waitStep s).delayAnswers = s.delayAnswers := rfl
@[simp] theorem waitStep_delayDraws : (waitStep s).delayDraws = s.delayDraws := rfl
@[simp] theorem waitStep_delayDevice : (waitStep s).delayDevice = s.delayDevice := rfl
@[simp] theorem waitStep_lateDones : (waitStep s).lateDones = s.lateDones - 1 := rfl

/-! ### An answer of the GPIO port (R51) -/

@[simp] theorem takePinAnswer_variant : (takePinAnswer s).variant = s.variant := by
  unfold takePinAnswer; split <;> simp_all
@[simp] theorem takePinAnswer_numSteps : (takePinAnswer s).numSteps = s.numSteps := by
  unfold takePinAnswer; split <;> simp_all
@[simp] theorem takePinAnswer_stepIndex : (takePinAnswer s).stepIndex = s.stepIndex := by
  unfold takePinAnswer; split <;> simp_all
@[simp] theorem takePinAnswer_dir : (takePinAnswer s).dir = s.dir := by
  unfold takePinAnswer; split <;> simp_all
@[simp] theorem takePinAnswer_stepDelay : (takePinAnswer s).stepDelay = s.stepDelay := by
  unfold takePinAnswer; split <;> simp_all
@[simp] theorem takePinAnswer_remaining : (takePinAnswer s).remaining = s.remaining := by
  unfold takePinAnswer; split <;> simp_all
@[simp] theorem takePinAnswer_phase : (takePinAnswer s).phase = s.phase := by
  unfold takePinAnswer; split <;> simp_all
@[simp] theorem takePinAnswer_curOp : (takePinAnswer s).curOp = s.curOp := by
  unfold takePinAnswer; split <;> simp_all
@[simp] theorem takePinAnswer_pinCursor : (takePinAnswer s).pinCursor = s.pinCursor := by
  unfold takePinAnswer; split <;> simp_all
@[simp] theorem takePinAnswer_pattern : (takePinAnswer s).pattern = s.pattern := by
  unfold takePinAnswer; split <;> simp_all
@[simp] theorem takePinAnswer_busy : (takePinAnswer s).busy = s.busy := by
  unfold takePinAnswer; split <;> simp_all
@[simp] theorem takePinAnswer_result : (takePinAnswer s).result = s.result := by
  unfold takePinAnswer; split <;> simp_all
@[simp] theorem takePinAnswer_lastErr : (takePinAnswer s).lastErr = s.lastErr := by
  unfold takePinAnswer; split <;> simp_all
@[simp] theorem takePinAnswer_delayPending : (takePinAnswer s).delayPending = s.delayPending := by
  unfold takePinAnswer; split <;> simp_all
@[simp] theorem takePinAnswer_pins : (takePinAnswer s).pins = s.pins := by
  unfold takePinAnswer; split <;> simp_all
@[simp] theorem takePinAnswer_trace : (takePinAnswer s).trace = s.trace := by
  unfold takePinAnswer; split <;> simp_all
@[simp] theorem takePinAnswer_resetIn : (takePinAnswer s).resetIn = s.resetIn := by
  unfold takePinAnswer; split <;> simp_all
@[simp] theorem takePinAnswer_cmdPort : (takePinAnswer s).cmdPort = s.cmdPort := by
  unfold takePinAnswer; split <;> simp_all
@[simp] theorem takePinAnswer_gpioAnswers : (takePinAnswer s).gpioAnswers = s.gpioAnswers.tail := by
  unfold takePinAnswer; split <;> simp_all
@[simp] theorem takePinAnswer_pinDraws : (takePinAnswer s).pinDraws = if s.gpioAnswers = [] then s.pinDraws + 1 else s.pinDraws := by
  unfold takePinAnswer; split <;> simp_all
@[simp] theorem takePinAnswer_delayAnswers : (takePinAnswer s).delayAnswers = s.delayAnswers := by
  unfold takePinAnswer; split <;> simp_all
@[simp] theorem takePinAnswer_delayDraws : (takePinAnswer s).delayDraws = s.delayDraws := by
  unfold takePinAnswer; split <;> simp_all
@[simp] theorem takePinAnswer_delayDevice : (takePinAnswer s).delayDevice = s.delayDevice := by
  unfold takePinAnswer; split <;> simp_all
@[simp] theorem takePinAnswer_lateDones : (takePinAnswer s).lateDones = s.lateDones := by
  unfold takePinAnswer; split <;> simp_all

/-! ### One pin write (R51, R52) -/

@[simp] theorem pinWrite_variant (k : Nat) (lvl : Level) : (pinWrite k lvl s).variant = s.variant := by
  simp [pinWrite]
@[simp] theorem pinWrite_numSteps (k : Nat) (lvl : Level) : (pinWrite k lvl s).numSteps = s.numSteps := by
  simp [pinWrite]
@[simp] theorem pinWrite_stepIndex (k : Nat) (lvl : Level) : (pinWrite k lvl s).stepIndex = s.stepIndex := by
  simp [pinWrite]
@[simp] theorem pinWrite_dir (k : Nat) (lvl : Level) : (pinWrite k lvl s).dir = s.dir := by
  simp [pinWrite]
@[simp] theorem pinWrite_stepDelay (k : Nat) (lvl : Level) : (pinWrite k lvl s).stepDelay = s.stepDelay := by
  simp [pinWrite]
@[simp] theorem pinWrite_remaining (k : Nat) (lvl : Level) : (pinWrite k lvl s).remaining = s.remaining := by
  simp [pinWrite]
@[simp] theorem pinWrite_phase (k : Nat) (lvl : Level) : (pinWrite k lvl s).phase = s.phase := by
  simp [pinWrite]
@[simp] theorem pinWrite_curOp (k : Nat) (lvl : Level) : (pinWrite k lvl s).curOp = s.curOp := by
  simp [pinWrite]
@[simp] theorem pinWrite_pinCursor (k : Nat) (lvl : Level) : (pinWrite k lvl s).pinCursor = s.pinCursor := by
  simp [pinWrite]
@[simp] theorem pinWrite_pattern (k : Nat) (lvl : Level) : (pinWrite k lvl s).pattern = s.pattern := by
  simp [pinWrite]
@[simp] theorem pinWrite_busy (k : Nat) (lvl : Level) : (pinWrite k lvl s).busy = s.busy := by
  simp [pinWrite]
@[simp] theorem pinWrite_result (k : Nat) (lvl : Level) : (pinWrite k lvl s).result = s.result := by
  simp [pinWrite]
@[simp] theorem pinWrite_lastErr (k : Nat) (lvl : Level) : (pinWrite k lvl s).lastErr = s.lastErr := by
  simp [pinWrite]
@[simp] theorem pinWrite_delayPending (k : Nat) (lvl : Level) : (pinWrite k lvl s).delayPending = s.delayPending := by
  simp [pinWrite]
@[simp] theorem pinWrite_pins (k : Nat) (lvl : Level) : (pinWrite k lvl s).pins = s.pins.set (k - 1) (levelAfter lvl (pinAnswerOf s)) := by
  simp [pinWrite]
@[simp] theorem pinWrite_trace (k : Nat) (lvl : Level) : (pinWrite k lvl s).trace = s.trace ++ [.pinWrite k lvl (pinAnswerOf s)] := by
  simp [pinWrite]
@[simp] theorem pinWrite_resetIn (k : Nat) (lvl : Level) : (pinWrite k lvl s).resetIn = s.resetIn := by
  simp [pinWrite]
@[simp] theorem pinWrite_cmdPort (k : Nat) (lvl : Level) : (pinWrite k lvl s).cmdPort = s.cmdPort := by
  simp [pinWrite]
@[simp] theorem pinWrite_gpioAnswers (k : Nat) (lvl : Level) : (pinWrite k lvl s).gpioAnswers = s.gpioAnswers.tail := by
  simp [pinWrite]
@[simp] theorem pinWrite_pinDraws (k : Nat) (lvl : Level) : (pinWrite k lvl s).pinDraws = if s.gpioAnswers = [] then s.pinDraws + 1 else s.pinDraws := by
  simp [pinWrite]
@[simp] theorem pinWrite_delayAnswers (k : Nat) (lvl : Level) : (pinWrite k lvl s).delayAnswers = s.delayAnswers := by
  simp [pinWrite]
@[simp] theorem pinWrite_delayDraws (k : Nat) (lvl : Level) : (pinWrite k lvl s).delayDraws = s.delayDraws := by
  simp [pinWrite]
@[simp] theorem pinWrite_delayDevice (k : Nat) (lvl : Level) : (pinWrite k lvl s).delayDevice = s.delayDevice := by
  simp [pinWrite]
@[simp] theorem pinWrite_lateDones (k : Nat) (lvl : Level) : (pinWrite k lvl s).lateDones = s.lateDones := by
  simp [pinWrite]

/-! ### A delay request taken up (R55) -/

@[simp] theorem startDelay_variant : (startDelay s).variant = s.variant := by
  unfold startDelay; split <;> simp_all
@[simp] theorem startDelay_numSteps : (startDelay s).numSteps = s.numSteps := by
  unfold startDelay; split <;> simp_all
@[simp] theorem startDelay_stepIndex : (startDelay s).stepIndex = s.stepIndex := by
  unfold startDelay; split <;> simp_all
@[simp] theorem startDelay_dir : (startDelay s).dir = s.dir := by
  unfold startDelay; split <;> simp_all
@[simp] theorem startDelay_stepDelay : (startDelay s).stepDelay = s.stepDelay := by
  unfold startDelay; split <;> simp_all
@[simp] theorem startDelay_remaining : (startDelay s).remaining = s.remaining := by
  unfold startDelay; split <;> simp_all
@[simp] theorem startDelay_phase : (startDelay s).phase = s.phase := by
  unfold startDelay; split <;> simp_all
@[simp] theorem startDelay_curOp : (startDelay s).curOp = s.curOp := by
  unfold startDelay; split <;> simp_all
@[simp] theorem startDelay_pinCursor : (startDelay s).pinCursor = s.pinCursor := by
  unfold startDelay; split <;> simp_all
@[simp] theorem startDelay_pattern : (startDelay s).pattern = s.pattern := by
  unfold startDelay; split <;> simp_all
@[simp] theorem startDelay_busy : (startDelay s).busy = s.busy := by
  unfold startDelay; split <;> simp_all
@[simp] theorem startDelay_result : (startDelay s).result = s.result := by
  unfold startDelay; split <;> simp_all
@[simp] theorem startDelay_lastErr : (startDelay s).lastErr = s.lastErr := by
  unfold startDelay; split <;> simp_all
@[simp] theorem startDelay_delayPending : (startDelay s).delayPending = s.delayPending := by
  unfold startDelay; split <;> simp_all
@[simp] theorem startDelay_pins : (startDelay s).pins = s.pins := by
  unfold startDelay; split <;> simp_all
@[simp] theorem startDelay_trace : (startDelay s).trace = s.trace := by
  unfold startDelay; split <;> simp_all
@[simp] theorem startDelay_resetIn : (startDelay s).resetIn = s.resetIn := by
  unfold startDelay; split <;> simp_all
@[simp] theorem startDelay_cmdPort : (startDelay s).cmdPort = s.cmdPort := by
  unfold startDelay; split <;> simp_all
@[simp] theorem startDelay_gpioAnswers : (startDelay s).gpioAnswers = s.gpioAnswers := by
  unfold startDelay; split <;> simp_all
@[simp] theorem startDelay_pinDraws : (startDelay s).pinDraws = s.pinDraws := by
  unfold startDelay; split <;> simp_all
@[simp] theorem startDelay_delayAnswers : (startDelay s).delayAnswers = s.delayAnswers.tail := by
  unfold startDelay; split <;> simp_all
@[simp] theorem startDelay_delayDraws : (startDelay s).delayDraws = if s.delayAnswers = [] then s.delayDraws + 1 else s.delayDraws := by
  unfold startDelay; split <;> simp_all
@[simp] theorem startDelay_delayDevice : (startDelay s).delayDevice = some (delayAnswerOf s) := by
  unfold startDelay; split <;> simp_all [delayAnswerOf]
@[simp] theorem startDelay_lateDones : (startDelay s).lateDones = s.lateDones := by
  unfold startDelay; split <;> simp_all

/-! ### The reset transition (R138) -/

@[simp] theorem applyReset_variant (v : Variant) (n : U32) : (applyReset v n s).variant = v := rfl
@[simp] theorem applyReset_numSteps (v : Variant) (n : U32) : (applyReset v n s).numSteps = n := rfl
@[simp] theorem applyReset_stepIndex (v : Variant) (n : U32) : (applyReset v n s).stepIndex = 0 := rfl
@[simp] theorem applyReset_dir (v : Variant) (n : U32) : (applyReset v n s).dir = .forward := rfl
@[simp] theorem applyReset_stepDelay (v : Variant) (n : U32) : (applyReset v n s).stepDelay = 0 := rfl
@[simp] theorem applyReset_remaining (v : Variant) (n : U32) : (applyReset v n s).remaining = 0 := rfl
@[simp] theorem applyReset_phase (v : Variant) (n : U32) : (applyReset v n s).phase = .idle := rfl
@[simp] theorem applyReset_curOp (v : Variant) (n : U32) : (applyReset v n s).curOp = .none := rfl
@[simp] theorem applyReset_pinCursor (v : Variant) (n : U32) : (applyReset v n s).pinCursor = 0 := rfl
@[simp] theorem applyReset_pattern (v : Variant) (n : U32) : (applyReset v n s).pattern = 0 := rfl
@[simp] theorem applyReset_busy (v : Variant) (n : U32) : (applyReset v n s).busy = false := rfl
@[simp] theorem applyReset_result (v : Variant) (n : U32) : (applyReset v n s).result = .none := rfl
@[simp] theorem applyReset_lastErr (v : Variant) (n : U32) : (applyReset v n s).lastErr = none := rfl
@[simp] theorem applyReset_delayPending (v : Variant) (n : U32) : (applyReset v n s).delayPending = false := rfl
@[simp] theorem applyReset_pins (v : Variant) (n : U32) : (applyReset v n s).pins = List.replicate v.npins .unknown := rfl
@[simp] theorem applyReset_trace (v : Variant) (n : U32) : (applyReset v n s).trace = s.trace ++ [.reset] := rfl
@[simp] theorem applyReset_resetIn (v : Variant) (n : U32) : (applyReset v n s).resetIn = none := rfl
@[simp] theorem applyReset_cmdPort (v : Variant) (n : U32) : (applyReset v n s).cmdPort = s.cmdPort := rfl
@[simp] theorem applyReset_gpioAnswers (v : Variant) (n : U32) : (applyReset v n s).gpioAnswers = s.gpioAnswers := rfl
@[simp] theorem applyReset_pinDraws (v : Variant) (n : U32) : (applyReset v n s).pinDraws = s.pinDraws := rfl
@[simp] theorem applyReset_delayAnswers (v : Variant) (n : U32) : (applyReset v n s).delayAnswers = s.delayAnswers := rfl
@[simp] theorem applyReset_delayDraws (v : Variant) (n : U32) : (applyReset v n s).delayDraws = s.delayDraws := rfl
@[simp] theorem applyReset_delayDevice (v : Variant) (n : U32) : (applyReset v n s).delayDevice = none := rfl
@[simp] theorem applyReset_lateDones (v : Variant) (n : U32) : (applyReset v n s).lateDones = s.lateDones + abandonedBy s := rfl

end Sys2Proof.Machine
end

