-- ==== Sys2Proof/Laws/Ops.lean ====
section
/-! SUPPORT. What the shared operations over pins and the delay device can do, said once. -/

namespace Sys2Proof.Machine

/-- A pin reads as it was last set (R52). -/
theorem readPin_setPin_same (s : State) {k : Nat} (l : PinLevel) (hk : 1 ≤ k) (hn : k ≤ s.pins.length) :
    readPin (setPin k l s) k = l := by
  obtain ⟨j, rfl⟩ : ∃ j, k = j + 1 := ⟨k - 1, by omega⟩
  have : j < s.pins.length := by omega
  simp [readPin, this]

/-- Setting a pin leaves every other pin alone (R52). -/
theorem readPin_setPin_other (s : State) {j k : Nat} (l : PinLevel) (hk : 1 ≤ k) (h : j ≠ k) :
    readPin (setPin k l s) j = readPin s j := by
  cases j with
  | zero => rfl
  | succ j =>
    have : k - 1 ≠ j := by omega
    simp [readPin, List.getElem?_set_ne this]

/-- A pin write is seen on its own pin as R52 says. -/
theorem readPin_pinWrite_same (s : State) {k : Nat} (lvl : Level) (hk : 1 ≤ k) (hn : k ≤ s.pins.length) :
    readPin (pinWrite k lvl s) k = levelAfter lvl (pinAnswerOf s) := by
  obtain ⟨j, rfl⟩ : ∃ j, k = j + 1 := ⟨k - 1, by omega⟩
  have : j < s.pins.length := by omega
  simp [readPin, this]

/-- A pin write leaves every other pin alone (R93). -/
theorem readPin_pinWrite_other (s : State) {j k : Nat} (lvl : Level) (hk : 1 ≤ k) (h : j ≠ k) :
    readPin (pinWrite k lvl s) j = readPin s j := by
  cases j with
  | zero => rfl
  | succ j =>
    have : k - 1 ≠ j := by omega
    simp [readPin, List.getElem?_set_ne this]

/-- Two states with the same pins read the same on every pin. -/
theorem readPin_congr {s t : State} (h : s.pins = t.pins) (k : Nat) : readPin s k = readPin t k := by
  cases k <;> simp [readPin, h]

@[simp] theorem pinAnswerOf_scripted {s : State} {a : PinAnswer} {rest : List PinAnswer}
    (h : s.gpioAnswers = a :: rest) : pinAnswerOf s = a := by simp [pinAnswerOf, h]

@[simp] theorem delayAnswerOf_scripted {s : State} {a : DelayAnswer} {rest : List DelayAnswer}
    (h : s.delayAnswers = a :: rest) : delayAnswerOf s = a := by simp [delayAnswerOf, h]

/-- All that an offer can do (R66): it succeeds exactly when no word is held, and then puts the word at the port. -/
theorem offerWord_eq_some {w : CmdWord} {s t : State} :
    offerWord w s = some t ↔ s.cmdPort = [] ∧ t = { s with cmdPort := [w] } := by
  unfold offerWord
  split <;> simp_all [eq_comm]

/-- Every pattern of the ROM has NPINS bits (R27, R47). -/
theorem patternOf_lt (v : Variant) (i : Nat) : (patternOf v i).toNat < 2 ^ v.npins := by
  have key : ∀ (v : Variant) (r : Fin v.cycle), (lutRead v r).toNat < 2 ^ v.npins := by
    intro v; cases v <;> decide
  exact key v (rowOf v i)

end Sys2Proof.Machine
end

