-- ==== Sys2Proof/Laws/PerInstr.lean ====
section
/-! SUPPORT. Facts about every command, one lemma per constructor. EncodedFields: the three fields of the encoded
word (30_encoding.md R65, R67, R71, R77). -/

namespace Sys2Proof.Laws.EncodedFields

/-- The encoded word has the command's OPC, a zero RSV and the command's OPERAND. -/
def Statement (i : Instr) : Prop :=
  opcField (encode i) = i.opcode ∧ rsvField (encode i) = 0 ∧ operandField (encode i) = i.operandBits

theorem setSpeed (rpm : Nat) : Statement (.setSpeed rpm) :=
  ⟨opcField_encode _, rsvField_encode _, operandField_encode _⟩

theorem move (n : Int) : Statement (.move n) :=
  ⟨opcField_encode _, rsvField_encode _, operandField_encode _⟩

theorem deenergize : Statement .deenergize :=
  ⟨opcField_encode _, rsvField_encode _, operandField_encode _⟩

theorem seqStep (i : Nat) : Statement (.seqStep i) :=
  ⟨opcField_encode _, rsvField_encode _, operandField_encode _⟩

theorem seqClear : Statement .seqClear :=
  ⟨opcField_encode _, rsvField_encode _, operandField_encode _⟩

end Sys2Proof.Laws.EncodedFields
end

