-- ==== Sys2Proof/Laws/Step.lean ====
section
/-! SUPPORT. Everything one step can do: `Took s t` has one case per transition (10_state.md R31), and
`step_took` says that a step which answers a next state took one of them. -/

namespace Sys2Proof.Machine

/-- `s` after the word `w` has been taken from the port and `Accept(w)` recorded. -/
def afterFetch (w : CmdWord) (rest : List CmdWord) (s : State) : State := emit (.accept w) { s with cmdPort := rest }

/-- The state the accepting transition of a command gives. -/
def execState : Instr → State → State
  | .setSpeed rpm, s => complete .ok { s with stepDelay := wrap32 (stepDelayOf s.numSteps.toNat rpm) }
  | .move n, s =>
    if moveMagnitude n = 0 then complete .ok { s with dir := moveDir n, remaining := 0 }
    else { s with dir := moveDir n, remaining := moveMagnitude n, curOp := .move, phase := .delayIssue, busy := true }
  | .deenergize, s => startDrive .deenergize 0 s
  | .seqStep i, s => startDrive .seqStep (patternOf s.variant i) s
  | .seqClear, s => startDrive .seqClear 0 s

/-- Every meaning answers a next state. -/
theorem exec_eq (i : Instr) (s : State) : exec i s = .next (execState i s) := by
  cases i <;> simp only [exec, execSetSpeed, execDeenergize, execSeqStep, execSeqClear, execState]
  case move n =>
    simp only [execMove]
    split
    · simp_all
    · rfl

/-- The transitions of one step. -/
inductive Took (s : State) : State → Prop where
  | reset (v : Variant) (n : U32) (h : s.resetIn = some ⟨some v, n⟩) : Took s (applyReset v n s)
  | idleWait (hr : s.resetIn = none) (hp : s.phase = .idle) (hc : s.cmdPort = []) : Took s (waitStep s)
  | command (w : CmdWord) (rest : List CmdWord) (i : Instr) (hr : s.resetIn = none) (hp : s.phase = .idle)
      (hc : s.cmdPort = w :: rest) (hd : decode w = .ok i) : Took s (execState i (afterFetch w rest s))
  | illegal (w : CmdWord) (rest : List CmdWord) (why : Illegal) (hr : s.resetIn = none) (hp : s.phase = .idle)
      (hc : s.cmdPort = w :: rest) (hd : decode w = .error why) : Took s (raiseIllegal (afterFetch w rest s))
  | delayIssue (hr : s.resetIn = none) (hp : s.phase = .delayIssue) : Took s (delayIssue s)
  | delayDone (hr : s.resetIn = none) (hp : s.phase = .delayWait) (hq : s.delayPending = true)
      (hd : s.delayDevice = some (.after 0)) : Took s (consumeDelayDone s)
  | delayTick (n : Nat) (hr : s.resetIn = none) (hp : s.phase = .delayWait) (hq : s.delayPending = true)
      (hd : s.delayDevice = some (.after (n + 1))) : Took s (waitStep { s with delayDevice := some (.after n) })
  | delayHang (hr : s.resetIn = none) (hp : s.phase = .delayWait) (hq : s.delayPending = true)
      (hd : s.delayDevice = some .never) : Took s (waitStep s)
  | advance (hr : s.resetIn = none) (hp : s.phase = .advance) : Took s (advance s)
  | drive (hr : s.resetIn = none) (hp : s.phase = .drive) (h1 : 1 ≤ s.pinCursor)
      (h2 : s.pinCursor ≤ s.variant.npins) :
      Took s (driveAnswered s.pinCursor (pinAnswerOf s) (pinWrite s.pinCursor (levelOf s.pattern s.pinCursor) s))

/-- A step that answers a next state took one of the transitions. -/
theorem step_took {s t : State} (h : step s = .next t) : Took s t := by
  unfold step at h
  split at h
  · next r hr =>
    unfold takeReset at h
    split at h
    · next v hv => cases h; obtain ⟨rv, n⟩ := r; cases hv; exact .reset v n hr
    · cases h
  · next hr =>
    split at h
    · next hp =>
      unfold accept fetch at h
      split at h
      · next w s1 hf =>
        split at hf
        · cases hf
        · next w' rest hc =>
          cases hf
          unfold acceptWord at h
          split at h
          · next i hd =>
            rw [exec_eq] at h
            cases h
            exact .command w rest i hr hp hc hd
          · next why hd => cases h; exact .illegal w rest why hr hp hc hd
      · next hf =>
        split at hf
        · next hc => cases h; exact .idleWait hr hp hc
        · cases hf
    · next hp => cases h; exact .delayIssue hr hp
    · next hp =>
      unfold delayWait at h
      split at h
      · next hq hd => cases h; exact .delayDone hr hp hq hd
      · next n hq hd => cases h; exact .delayTick n hr hp hq hd
      · next hq hd => cases h; exact .delayHang hr hp hq hd
      · cases h
    · next hp => cases h; exact .advance hr hp
    · next hp =>
      simp only [drive] at h
      split at h
      · next hk => cases h; exact .drive hr hp hk.1 hk.2
      · cases h

/-- What DRIVE can do with an answer (R92, R93, R108). -/
theorem driveAnswered_cases (k : Nat) (r : PinAnswer) (s : State) :
    (r = .ok ∧ k < s.variant.npins ∧ driveAnswered k r s = { s with pinCursor := k + 1 }) ∨
    (r = .ok ∧ s.variant.npins ≤ k ∧ s.curOp ≠ .move ∧
      driveAnswered k r s = complete .ok { s with pinCursor := 0 }) ∨
    (r = .ok ∧ s.variant.npins ≤ k ∧ s.curOp = .move ∧ s.remaining - 1 = 0 ∧
      driveAnswered k r s = complete .ok { s with pinCursor := 0, remaining := 0 }) ∨
    (r = .ok ∧ s.variant.npins ≤ k ∧ s.curOp = .move ∧ s.remaining - 1 ≠ 0 ∧
      driveAnswered k r s = { s with pinCursor := 0, remaining := s.remaining - 1, phase := .delayIssue }) ∨
    (∃ e, r = .err e ∧ driveAnswered k r s = complete (.pinFail e) s) := by
  cases r with
  | err e => simp [driveAnswered, raisePinFail]
  | ok =>
    by_cases hk : k < s.variant.npins
    · exact .inl ⟨rfl, hk, by simp [driveAnswered, driveOk, hk]⟩
    have hle : s.variant.npins ≤ k := by omega
    by_cases hm : s.curOp = .move
    · by_cases h0 : s.remaining - 1 = 0
      · exact .inr (.inr (.inl ⟨rfl, hle, hm, h0, by simp only [driveAnswered, driveOk, endOfStep, hk, hm, h0, if_true, if_false]⟩))
      · exact .inr (.inr (.inr (.inl ⟨rfl, hle, hm, h0, by simp only [driveAnswered, driveOk, endOfStep, hk, hm, h0, if_true, if_false]⟩)))
    · exact .inr (.inl ⟨rfl, hle, hm, by simp only [driveAnswered, driveOk, hk, hm, if_false]⟩)

end Sys2Proof.Machine
end

