-- ==== Sys2Proof/Tests/Slice0.lean ====
section
/-! SUPPORT. Tests of the model against the spec's worked examples and vectors (95_test_vectors.md; the vector is
named at each test), and for each statement with hypotheses a state and operands that meet them. -/

namespace Sys2Proof.Tests

open Sys2Proof Sys2Proof.Machine

/-! ### WellFormed: the range checks of R75, each with an ill-formed and a boundary term -/

theorem test_wf_setSpeed_range : (Instr.setSpeed (2 ^ 32)).wf = false ∧ (Instr.setSpeed (2 ^ 32 - 1)).wf = true := by
  decide
theorem test_wf_move_low : (Instr.move (-2 ^ 31 - 1)).wf = false ∧ (Instr.move (-2 ^ 31)).wf = true := by decide
theorem test_wf_move_high : (Instr.move (2 ^ 31)).wf = false ∧ (Instr.move (2 ^ 31 - 1)).wf = true := by decide
theorem test_wf_seqStep_range : (Instr.seqStep (2 ^ 32)).wf = false ∧ (Instr.seqStep (2 ^ 32 - 1)).wf = true := by
  decide
theorem test_assemble_refuses : assemble (.setSpeed (2 ^ 32)) = none ∧ assemble (.move (2 ^ 31)) = none := by decide

/-! ### Decode: words written out bit by bit from R65 and R67, OPERAND : RSV : OPC -/

/-- SET_SPEED 60 (S-src-1). -/
theorem test_decode_setSpeed :
    decode 0b00000000000000000000000000111100000000000000000000000000_00000001 = .ok (.setSpeed 60) := by decide
/-- SET_SPEED with the largest operand, unsigned (S-12). -/
theorem test_decode_setSpeed_max :
    decode 0b11111111111111111111111111111111000000000000000000000000_00000001 = .ok (.setSpeed 4294967295) := by
  decide
/-- MOVE -3 (E-2). -/
theorem test_decode_move_negative :
    decode 0b11111111111111111111111111111101000000000000000000000000_00000010 = .ok (.move (-3)) := by decide
/-- MOVE -2147483648 (E-3). -/
theorem test_decode_move_min :
    decode 0b10000000000000000000000000000000000000000000000000000000_00000010 = .ok (.move (-2147483648)) := by
  decide
/-- DEENERGIZE (E-4) and its illegal neighbour (E-5). -/
theorem test_decode_deenergize :
    decode 0b00000000000000000000000000000000000000000000000000000000_00000011 = .ok .deenergize ∧
    decode 0b00000000000000000000000000000001000000000000000000000000_00000011 = .error .operandNotZero := by decide
/-- SEQ_STEP 4294967295 (E-12). -/
theorem test_decode_seqStep :
    decode 0b11111111111111111111111111111111000000000000000000000000_00000100 = .ok (.seqStep 4294967295) := by
  decide
/-- SEQ_CLEAR (E-6) and its illegal neighbour (E-7). -/
theorem test_decode_seqClear :
    decode 0b00000000000000000000000000000000000000000000000000000000_00000101 = .ok .seqClear ∧
    decode 0b00000000000000000000000000000000000000000000000000000001_00000101 = .error .reservedNotZero := by decide
/-- E-9, E-10, E-11, E-13. -/
theorem test_decode_illegal :
    decode 0x00 = .error (.unassignedOpcode 0) ∧ decode 0xFF = .error (.unassignedOpcode 0xFF) ∧
    decode 0x0000000080000001 = .error .reservedNotZero ∧ decode 0x06 = .error (.unassignedOpcode 6) := by decide
/-- R49: the bytes of MOVE -3, least significant first. -/
theorem test_decodeBytes_move :
    decodeBytes [0x02, 0x00, 0x00, 0x00, 0xFD, 0xFF, 0xFF, 0xFF, 0xAA] = .ok (.move (-3), [0xAA]) := by rfl
theorem test_decodeBytes_short : decodeBytes [0x02, 0x00] = .error (.shortWord 2) := by rfl
/-- The host's numbering of a table row's bits. -/
theorem test_decodeTableWord : decodeTableWord 64 0x0000000400000002 = some (.move 4) ∧
    decodeTableWord 64 0x0000000100000005 = none := by decide

/-! ### The tables (95 §1.1) and the operand functions -/

/-- The packed rows of P2 and P4 (95 §1.1). -/
theorem test_packed_p2_p4 : (List.range 4).map (patternOf .p2) = [0x2, 0x3, 0x1, 0x0] ∧
    (List.range 4).map (patternOf .p4) = [0x5, 0x6, 0xA, 0x9] := by decide
/-- The packed rows of P5 (95 §1.1). -/
theorem test_packed_p5 : (List.range 10).map (patternOf .p5) =
    [0x16, 0x12, 0x1A, 0x0A, 0x0B, 0x09, 0x0D, 0x05, 0x15, 0x14] := by decide
/-- Rows of the largest index (Q-5, Q-9, Q-15). -/
theorem test_row_of_max : patternOf .p2 0xFFFFFFFF = 0x0 ∧ patternOf .p4 0xFFFFFFFF = 0x9 ∧
    patternOf .p5 0xFFFFFFFF = 0x09 := by decide
/-- R95: how many pins change from each row of P2 and P5 to the next: one. -/
theorem test_one_pin_changes :
    (∀ r < 4, (patternOf .p2 r ^^^ patternOf .p2 (r + 1)) ∈ [0x1, 0x2]) ∧
    (∀ r < 10, (patternOf .p5 r ^^^ patternOf .p5 (r + 1)) ∈ [0x01, 0x02, 0x04, 0x08, 0x10]) := by decide
/-- R116, M-4: on P4 with NUM_STEPS 6 the rows jump at the index wrap: 1, 2, 3, 0, 1, 0. -/
theorem test_row_jump : (List.range 6).map (fun m => patternOf .p4 (indexAfter .forward 6 (m + 1) 0).toNat) =
    [0x6, 0xA, 0x9, 0x5, 0x6, 0x5] := by decide
/-- S-src-1, S-6, S-9, S-10, S-11, S-12. -/
theorem test_stepDelay : stepDelayOf 1000000 60 = 1 ∧ stepDelayOf 400 7 = 21428 ∧ stepDelayOf 1 1 = 60000000 ∧
    stepDelayOf 1000000 61 = 0 ∧ stepDelayOf 60000001 1 = 0 ∧ stepDelayOf 1 4294967295 = 0 := by decide
/-- S-src-2, S-src-3, S-13. -/
theorem test_stepDelay_degenerate : stepDelayOf 200 0 = 0 ∧ stepDelayOf 0 60 = 0 ∧ stepDelayOf 0 0 = 0 := by decide
/-- N-1 to N-8. -/
theorem test_nextIndex : nextIndex 0 .forward 4 = 1 ∧ nextIndex 3 .forward 4 = 0 ∧ nextIndex 0 .backward 4 = 3 ∧
    nextIndex 1 .backward 4 = 0 ∧ nextIndex 0 .forward 1 = 0 ∧ nextIndex 0 .backward 1 = 0 := by decide
/-- N-9 to N-14. -/
theorem test_nextIndex_edges : nextIndex 0xFFFFFFFE .forward 0xFFFFFFFF = 0 ∧
    nextIndex 0 .backward 0xFFFFFFFF = 0xFFFFFFFE ∧ nextIndex 0 .forward 0 = 1 ∧
    nextIndex 0xFFFFFFFF .forward 0 = 0 ∧ nextIndex 0 .backward 0 = 0xFFFFFFFF ∧ nextIndex 5 .backward 0 = 4 := by
  decide

/-! ### One step -/

/-- The one error of the GPIO port that is known to exist. -/
def anError : PinError := ⟨0, rfl⟩

/-- A block right after reset, with words at its port and answers for its requests. -/
def block (v : Variant) (n : Nat) (words : List CmdWord) (ans : List PinAnswer) (delays : List DelayAnswer) : State :=
  { State.construct v (wrap32 n) with cmdPort := words, gpioAnswers := ans, delayAnswers := delays }

/-- The next state of one step, if there is one. -/
def stepped (s : State) : Option State :=
  match step s with
  | .next t => some t
  | _ => none

/-- S-1: SET_SPEED 60 with NUM_STEPS 4. -/
theorem test_setSpeed : (stepped (block .p4 4 [0x0000003C00000001] [] [])).map
    (fun t => (t.stepDelay, readReg t 0x00, t.trace)) =
    some (250000, 0x2, [.reset, .accept 0x0000003C00000001, .complete .ok]) := by decide
/-- M-3: MOVE 0 sets DIR and completes at once. -/
theorem test_move_zero : (stepped { block .p4 4 [0x0000000000000002] [] [] with dir := .backward, stepIndex := 2 }).map
    (fun t => (t.stepIndex, t.dir, readReg t 0x00)) = some (2, .forward, 0x2) := by decide
/-- 95 §2.3: right after accepting MOVE -2147483648 from reset, STATUS is 0x111 and REMAINING 2^31. -/
theorem test_move_min : (stepped (block .p4 4 [0x8000000000000002] [] [])).map
    (fun t => (t.dir, readReg t 0x06, readReg t 0x00)) = some (.backward, 0x80000000, 0x00000111) := by decide
/-- Q-7: SEQ_STEP 5 on P4 loads row 1. -/
theorem test_seqStep : (stepped (block .p4 4 [0x0000000500000004] [] [])).map
    (fun t => (t.pattern, t.pinCursor, t.curOp, t.phase, t.stepIndex)) = some (0x6, 1, .seqStep, .drive, 0) := by
  decide
/-- R90, R117. -/
theorem test_clear_commands : (stepped (block .p5 10 [0x05] [] [])).map (fun t => (t.pattern, t.curOp, t.busy)) =
    some (0, .seqClear, true) ∧
    (stepped (block .p5 10 [0x03] [] [])).map (fun t => (t.pattern, t.curOp, t.busy)) =
      some (0, .deenergize, true) := by decide
/-- E-8: an illegal word. -/
theorem test_illegal : (stepped (block .p2 200 [0x0000000000000106] [] [])).map
    (fun t => (readReg t 0x00, t.lastErr, t.trace)) =
    some (0x6, none, [.reset, .accept 0x106, .complete .illegal]) := by decide

/-- A P4 block in a MOVE, at the last pin of its last step. -/
def lastPin (a : PinAnswer) : State :=
  { block .p4 4 [] [a] [] with phase := .drive, curOp := .move, busy := true, pinCursor := 4, remaining := 1,
                               stepIndex := 3, pattern := 0x9, pins := [.high, .low, .low, .high] }

/-- R108: the last step's last pin ends the MOVE. -/
theorem test_last_pin_ok : (stepped (lastPin .ok)).map (fun t => (t.pins, t.remaining, readReg t 0x00)) =
    some ([.high, .low, .low, .high], 0, 0x2) := by decide
/-- F-src-2: Err on pin 4 of a step leaves it UNKNOWN and ends the MOVE with PIN_FAIL. -/
theorem test_last_pin_err : (stepped (lastPin (.err anError))).map
    (fun t => (t.pins, t.remaining, t.stepIndex, readReg t 0x00, t.lastErr)) =
    some ([.high, .low, .low, .unknown], 1, 3, 0x4, some anError) := by decide

/-- 95 §2.3: waiting in the first step of MOVE 4 after SET_SPEED 60, STATUS is 0x123 and REMAINING 4. -/
theorem test_status_delayWait : (stepped { block .p4 4 [] [] [.after 1] with
      phase := .delayIssue, curOp := .move, busy := true, result := .ok, remaining := 4, stepDelay := 250000 }).map
    (fun t => (readReg t 0x00, readReg t 0x06, t.trace)) =
    some (0x00000123, 4, [.reset, .delayReq 250000]) := by decide
/-- M-12: ADVANCE backward at NUM_STEPS 0 selects row 5 of P5. -/
theorem test_advance_wrap : (stepped { block .p5 0 [] [] [] with
      phase := .advance, curOp := .move, busy := true, dir := .backward, remaining := 1 }).map (fun t => (t.stepIndex, t.pattern)) =
    some (0xFFFFFFFF, 0x09) := by decide
/-- P5 (program): reset in the middle of a step makes the pins UNKNOWN and reports no result. -/
theorem test_reset_mid_command : (stepped { lastPin .ok with resetIn := some ⟨some .p4, 4⟩ }).map
    (fun t => (t.pins, readReg t 0x00, t.stepIndex, t.trace)) =
    some ([.unknown, .unknown, .unknown, .unknown], 0, 0, [.reset, .reset]) := by decide
/-- 95 §2.7: CONFIG and NUM_STEPS after reset. -/
theorem test_registers_after_reset : readReg (State.construct .p2 4) 0x05 = 0x402 ∧
    readReg (State.construct .p4 200) 0x01 = 0xC8 ∧ readReg (State.construct .p5 10) 0x05 = 0xA05 := by decide
/-- withFetchWord from State.reset: the placed word is accepted by the very next step. -/
theorem test_withFetchWord : (stepped (State.reset.withFetchWord 64 0x0000000300000002)).map
    (fun t => (t.remaining, t.phase)) = some (3, .delayIssue) := by decide

/-- R49: STATUS 0x123 and CONFIG of P5, least significant byte first. -/
theorem test_registerBytes : registerBytes 0x00000123 = [0x23, 0x01, 0x00, 0x00] ∧
    readRegBytes (State.construct .p5 10) 0x05 = [0x05, 0x0A, 0x00, 0x00] := by decide
/-- R66: a word is offered to a free port, and a second one cannot be. -/
theorem test_offerWord : (offerWord 0x03 (lastPin .ok)).map (·.cmdPort) = some [0x03] ∧
    offerWord 0x05 { lastPin .ok with cmdPort := [0x03] } = none := by decide

/-! ### Witnesses: states and operands that meet the statements' hypotheses -/

/-- The state after `k` steps. -/
def after (k : Nat) (s : State) : State :=
  match core.run k s with
  | .next t => t
  | _ => s

/-- Does the command whose accepting transition gave `s` end after exactly `k` steps? -/
def endsCheck (k : Nat) (s : State) : Bool :=
  (match core.run k s with
    | .next t => decide (t.phase = .idle)
    | _ => false) &&
  (List.range k).all fun j =>
    match core.run j s with
    | .next u => decide (u.phase ≠ .idle)
    | _ => false

theorem endsIn_of_check {k : Nat} {s : State} (h : endsCheck k s = true) : EndsIn k s (after k s) := by
  simp only [endsCheck, Bool.and_eq_true, List.all_eq_true, List.mem_range] at h
  obtain ⟨h1, h2⟩ := h
  refine ⟨?_, ?_, ?_⟩
  · unfold after; split at h1 <;> simp_all
  · unfold after; split at h1 <;> simp_all
  · intro j hj
    have := h2 j hj
    split at this
    · exact ⟨_, ‹_›, by simpa using this⟩
    · cases this

theorem inv_block_p4 (ws : List CmdWord) (ans : List PinAnswer) (ds : List DelayAnswer) :
    (block .p4 4 ws ans ds).Inv := by
  constructor <;> simp [block, State.construct, wrap32, Variant.npins]
theorem inv_block_p2 (ws : List CmdWord) (ans : List PinAnswer) (ds : List DelayAnswer) :
    (block .p2 2 ws ans ds).Inv := by
  constructor <;> simp [block, State.construct, wrap32, Variant.npins]
theorem ready_p2 (ans : List PinAnswer) (ds : List DelayAnswer) : Ready (block .p2 2 [] ans ds) :=
  ⟨inv_block_p2 [] ans ds, rfl, rfl⟩
theorem inv_lastPin (a : PinAnswer) : (lastPin a).Inv := by
  constructor <;> simp [lastPin, block, State.construct, wrap32, Variant.npins]

/-- A P4 block that waits for the delay of a MOVE. -/
def waiting (d : DelayAnswer) : State :=
  { block .p4 4 [] [] [] with phase := .delayWait, curOp := .move, busy := true, remaining := 2,
                              delayPending := true, delayDevice := some d }
theorem inv_waiting (d : DelayAnswer) : (waiting d).Inv := by
  constructor <;> simp [waiting, block, State.construct, wrap32, Variant.npins]

/-- A P4 block about to advance. -/
def advancing (d : Direction) (n i : U32) : State :=
  { block .p4 4 [] [] [] with phase := .advance, curOp := .move, busy := true, remaining := 2, dir := d,
                              numSteps := n, stepIndex := i }

theorem witness_DecodeEncodeRoundTrip : (Instr.move (-2 ^ 31)).wf = true := by decide
theorem witness_TableRowSelectsCommand : decode 0xFFFFFFFF00000004 = .ok (.seqStep 4294967295) := by decide
theorem witness_EncodeDecodeRoundTrip : decode 0x8000000000000002 = .ok (.move (-2 ^ 31)) := by decide
theorem witness_OperandAssembly : decode 0xFFFFFFFF00000001 = .ok (.setSpeed 4294967295) ∧
    decode 0x8000000000000002 = .ok (.move (-2147483648)) ∧ decode 0xFFFFFFFF00000004 = .ok (.seqStep 4294967295) ∧
    decode 0x05 = .ok .seqClear := by decide
theorem witness_TransportIsLittleEndian : decode 0x03 = .ok .deenergize ∧
    decode 0x07 = .error (.unassignedOpcode 7) := by decide
theorem witness_IllegalWordCompletesAtOnce :
    Ready (block .p4 4 [0x0000000100000005] [] []) ∧ ∃ why, decode 0x0000000100000005 = .error why :=
  ⟨⟨inv_block_p4 _ _ _, rfl, rfl⟩, .operandNotZero, by decide⟩
theorem witness_AssemblerKeepsOperandRange : assemble (.move 4) = some 0x0000000400000002 := by decide
theorem witness_StepRunsDecodedCommand : (block .p4 4 [0x03, 0x05] [] []).resetIn = none ∧
    (block .p4 4 [0x03, 0x05] [] []).phase = .idle ∧ (block .p4 4 [0x03, 0x05] [] []).cmdPort = 0x03 :: [0x05] ∧
    decode 0x03 = .ok .deenergize := by decide
theorem witness_PlacedWordRunsNext : decodeTableWord 64 0x0000000300000004 = some (.seqStep 3) := by decide
theorem witness_WordHeldWhileBusy : { lastPin .ok with cmdPort := [0x03] }.resetIn = none ∧
    { lastPin .ok with cmdPort := [0x03] }.phase ≠ .idle ∧
    ∃ t, step { lastPin .ok with cmdPort := [0x03] } = .next t := ⟨rfl, by decide, _, rfl⟩
theorem witness_IdleWaitsForWord : (block .p4 4 [] [] []).resetIn = none ∧ (block .p4 4 [] [] []).phase = .idle ∧
    (block .p4 4 [] [] []).cmdPort = [] := by decide
theorem witness_StepDelayIsExactQuotient : 0 < 1 ∧ 0 < (block .p4 4 [] [] []).numSteps.toNat := by decide
theorem witness_MoveAcceptSetsDirAndRemaining : (Instr.move 0).wf = true ∧ (Instr.move (-2 ^ 31)).wf = true ∧
    (Instr.move (2 ^ 31 - 1)).wf = true := by decide
theorem witness_SeqStepLoadsTableRow : (block .p2 4 [] [] []).variant = .p2 ∧ (block .p4 4 [] [] []).variant = .p4 ∧
    (block .p5 4 [] [] []).variant = .p5 := by decide
theorem witness_DelayIssueRequestsStepDelay :
    { block .p4 4 [] [] [] with phase := .delayIssue }.resetIn = none ∧
    { block .p4 4 [] [] [] with phase := .delayIssue }.phase = .delayIssue := by decide
theorem witness_DelayWaitConsumesAnswer : (waiting (.after 0)).resetIn = none ∧
    (waiting (.after 0)).phase = .delayWait ∧ (waiting (.after 0)).delayPending = true ∧
    (waiting (.after 0)).delayDevice = some (.after 0) ∧ (waiting (.after 1)).delayDevice = some (.after (0 + 1)) ∧
    (waiting .never).delayDevice = some .never := by decide
/-- One witness per clause: forward at the wrap, backward at the wrap, NUM_STEPS 0. -/
theorem witness_AdvanceMovesIndexAndLoadsRow :
    ((advancing .forward 4 3).phase = .advance ∧ (advancing .forward 4 3).resetIn = none ∧
      (advancing .forward 4 3).stepIndex.toNat < (advancing .forward 4 3).numSteps.toNat) ∧
    ((advancing .backward 4 0).dir = .backward ∧
      (advancing .backward 4 0).stepIndex.toNat < (advancing .backward 4 0).numSteps.toNat) ∧
    ((advancing .backward 0 0).numSteps = 0 ∧ (advancing .forward 0 0xFFFFFFFF).numSteps = 0) := by decide
theorem witness_DriveWritesOnePin : (lastPin .ok).Inv ∧ (lastPin .ok).resetIn = none ∧
    (lastPin .ok).phase = .drive ∧ (lastPin .ok).gpioAnswers = .ok :: [] ∧ pinAnswerOf (lastPin .ok) = .ok ∧
    pinAnswerOf (lastPin (.err anError)) = .err anError :=
  ⟨inv_lastPin _, rfl, rfl, rfl, rfl, rfl⟩
/-- One witness per clause: not the last pin, the last pin of a sequencer command, of a MOVE's last step, of an
earlier step. -/
theorem witness_DriveOkGoesOn :
    ({ lastPin .ok with pinCursor := 3 }.Inv ∧ pinAnswerOf { lastPin .ok with pinCursor := 3 } = .ok) ∧
    ({ lastPin .ok with curOp := .seqStep }.Inv ∧ { lastPin .ok with curOp := .seqStep }.pinCursor = 4) ∧
    ((lastPin .ok).Inv ∧ (lastPin .ok).remaining = 1 ∧ (lastPin .ok).pinCursor = (lastPin .ok).variant.npins) ∧
    ({ lastPin .ok with remaining := 2 }.Inv ∧ { lastPin .ok with remaining := 2 }.remaining ≠ 1) :=
  ⟨⟨by constructor <;> decide, rfl⟩, ⟨by constructor <;> decide, rfl⟩, ⟨inv_lastPin _, rfl, rfl⟩,
    ⟨by constructor <;> decide, by decide⟩⟩
theorem witness_DriveErrEndsCommand : (lastPin (.err anError)).Inv ∧ (lastPin (.err anError)).resetIn = none ∧
    (lastPin (.err anError)).phase = .drive ∧ pinAnswerOf (lastPin (.err anError)) = .err anError :=
  ⟨inv_lastPin _, rfl, rfl, rfl⟩
theorem witness_UnansweredDelayHangs : (waiting .never).Inv ∧ (waiting .never).resetIn = none ∧
    (waiting .never).phase = .delayWait ∧ (waiting .never).delayDevice = some .never :=
  ⟨inv_waiting _, rfl, rfl, rfl⟩

/-- P2 after accepting SEQ_STEP 1, with the answers `a` and `b`. -/
def seqStarted (a b : PinAnswer) : State := execState (.seqStep 1) (block .p2 2 [] [a, b] [])
theorem ends_seq_ok : EndsIn 2 (seqStarted .ok .ok) (after 2 (seqStarted .ok .ok)) := endsIn_of_check (by decide)
theorem ends_seq_err1 : EndsIn 1 (seqStarted (.err anError) .ok) (after 1 (seqStarted (.err anError) .ok)) :=
  endsIn_of_check (by decide)
theorem ends_seq_err2 : EndsIn 2 (seqStarted .ok (.err anError)) (after 2 (seqStarted .ok (.err anError))) :=
  endsIn_of_check (by decide)

/-- Both outcomes, and a failure at the first and at the last pin. -/
theorem witness_SequencerCommandOutcome :
    (Ready (block .p2 2 [] [.ok, .ok] []) ∧ exec (.seqStep 1) (block .p2 2 [] [.ok, .ok] []) = .next (seqStarted .ok .ok) ∧
      EndsIn 2 (seqStarted .ok .ok) (after 2 (seqStarted .ok .ok)) ∧ drivesOnce (.seqStep 1) = true) ∧
    EndsIn 1 (seqStarted (.err anError) .ok) (after 1 (seqStarted (.err anError) .ok)) ∧
    EndsIn 2 (seqStarted .ok (.err anError)) (after 2 (seqStarted .ok (.err anError))) :=
  ⟨⟨ready_p2 _ _, rfl, ends_seq_ok, rfl⟩, ends_seq_err1, ends_seq_err2⟩
theorem witness_SequencerCommandEnds : Ready (block .p2 2 [] [] []) ∧ drivesOnce .deenergize = true :=
  ⟨ready_p2 _ _, rfl⟩
theorem witness_SequencerCommandsKeepPosition :
    Ready (block .p2 2 [] [.ok, .ok] []) ∧ drivesOnce .deenergize = true ∧
    ∃ t, Ends .deenergize (block .p2 2 [] [.ok, .ok] []) t ∧ t.result = .ok :=
  ⟨ready_p2 _ _, rfl, after 2 (execState .deenergize (block .p2 2 [] [.ok, .ok] [])),
    ⟨_, 2, exec_eq _ _, endsIn_of_check (by decide)⟩, by decide⟩

/-- MOVE n from reset on P2 with NUM_STEPS 2, delays answered at once. -/
def moveStarted (n : Int) (ans : List PinAnswer) : State :=
  execState (.move n) (block .p2 2 [] ans [.after 0, .after 0])
theorem ends_move {n : Int} {ans : List PinAnswer} {k : Nat} (h : endsCheck k (moveStarted n ans) = true) :
    Ends (.move n) (block .p2 2 [] ans [.after 0, .after 0]) (after k (moveStarted n ans)) :=
  ⟨_, k, exec_eq _ _, endsIn_of_check h⟩

/-- MOVE -1, MOVE 0 and MOVE 2 end OK. -/
theorem witness_MoveEndsOk : (Instr.move (-1)).wf = true ∧ (block .p2 2 [] [] []).numSteps ≠ 0 ∧
    (∃ t, Ready (block .p2 2 [] [.ok, .ok] [.after 0, .after 0]) ∧
      Ends (.move (-1)) (block .p2 2 [] [.ok, .ok] [.after 0, .after 0]) t ∧ t.result = .ok) ∧
    ∃ t, Ends (.move 0) (block .p2 2 [] [] [.after 0, .after 0]) t ∧ t.result = .ok :=
  ⟨by decide, by decide, ⟨_, ready_p2 _ _, ends_move (k := 5) (by decide), by decide⟩,
    ⟨_, ends_move (k := 0) (by decide), by decide⟩⟩
theorem witness_MoveEndsFailed :
    ∃ t, Ready (block .p2 2 [] [.ok, .err anError] [.after 0, .after 0]) ∧ (Instr.move 1).wf = true ∧
      Ends (.move 1) (block .p2 2 [] [.ok, .err anError] [.after 0, .after 0]) t ∧ t.result ≠ .ok :=
  ⟨_, ready_p2 _ _, by decide, ends_move (k := 5) (by decide), by decide⟩
theorem witness_MoveEventCounts : (∀ ans, Ready (block .p2 2 [] ans [.after 0, .after 0])) ∧
    (Instr.move (-1)).wf = true ∧ (Instr.move 1).wf = true ∧
    (∃ t, Ends (.move (-1)) (block .p2 2 [] [.ok, .ok] [.after 0, .after 0]) t ∧ t.result = .ok) ∧
    ∃ t, Ends (.move 1) (block .p2 2 [] [.err anError] [.after 0, .after 0]) t ∧ t.result ≠ .ok :=
  ⟨fun ans => ready_p2 ans _, by decide, by decide, ⟨_, ends_move (k := 5) (by decide), by decide⟩,
    ⟨_, ends_move (k := 4) (by decide), by decide⟩⟩
theorem witness_MoveFollowsReference :
    ∃ t r, Ready (block .p2 2 [] [.ok, .err anError] [.after 0, .after 0]) ∧ (Instr.move 1).wf = true ∧
      Ends (.move 1) (block .p2 2 [] [.ok, .err anError] [.after 0, .after 0]) t ∧
      moveBig (block .p2 2 [] [.ok, .err anError] [.after 0, .after 0]) 1 [.ok, .err anError] = some r :=
  ⟨_, _, ready_p2 _ _, by decide, ends_move (k := 5) (by decide), rfl⟩
theorem witness_MoveEndsWhenDelaysAnswer :
    Ready (block .p2 2 [] [] [.after 3, .after 0]) ∧ (Instr.move 2).wf = true ∧ (2 : Int).natAbs ≤ (block .p2 2 [] [] [.after 3, .after 0]).delayAnswers.length ∧
      ∀ a ∈ (block .p2 2 [] [] [.after 3, .after 0]).delayAnswers.take (2 : Int).natAbs, a ≠ .never :=
  ⟨ready_p2 _ _, by decide, by decide, by decide⟩
theorem witness_MoveTransitionCount :
    (∀ ans, Ready (block .p2 2 [] ans [.after 0, .after 0]) ∧
      exec (.move 1) (block .p2 2 [] ans [.after 0, .after 0]) = .next (moveStarted 1 ans)) ∧
    (Instr.move 1).wf = true ∧
    (1 : Int).natAbs ≤ (block .p2 2 [] [.ok, .ok] [.after 0, .after 0]).delayAnswers.length ∧
    (∀ a ∈ (block .p2 2 [] [.ok, .ok] [.after 0, .after 0]).delayAnswers.take (1 : Int).natAbs, a = .after 0) ∧
    EndsIn 5 (moveStarted 1 [.ok, .ok]) (after 5 (moveStarted 1 [.ok, .ok])) ∧
    EndsIn 4 (moveStarted 1 [.err anError]) (after 4 (moveStarted 1 [.err anError])) :=
  ⟨fun ans => ⟨ready_p2 ans _, exec_eq _ _⟩, by decide, by decide, by decide, endsIn_of_check (by decide),
    endsIn_of_check (by decide)⟩
/-- MOVE 2 and MOVE -2 with NUM_STEPS 2. -/
theorem witness_FullCycleReturns : Ready (block .p2 2 [] [.ok, .ok, .ok, .ok] [.after 0, .after 0]) ∧
    (Instr.move 2).wf = true ∧ (Instr.move (-2)).wf = true ∧ (block .p2 2 [] [] []).numSteps ≠ 0 ∧
    (∃ t, Ends (.move 2) (block .p2 2 [] [.ok, .ok, .ok, .ok] [.after 0, .after 0]) t ∧ t.result = .ok) ∧
    (∃ t, Ends (.move (-2)) (block .p2 2 [] [.ok, .ok, .ok, .ok] [.after 0, .after 0]) t ∧ t.result = .ok) ∧
    (2 : Int) = ((block .p2 2 [] [] []).numSteps.toNat : Int) :=
  ⟨ready_p2 _ _, by decide, by decide, by decide, ⟨_, ends_move (k := 10) (by decide), by decide⟩, ⟨_, ends_move (k := 10) (by decide), by decide⟩, by decide⟩
theorem witness_DirectionSymmetry : Ready (block .p2 2 [] [.ok, .ok, .ok, .ok] [.after 0, .after 0]) ∧
    (block .p2 2 [] [] []).numSteps ≠ 0 ∧ (-(2 ^ 31 - 1) ≤ (1 : Int) ∧ (1 : Int) ≤ 2 ^ 31 - 1) ∧
    ∃ t u, Ends (.move (-1)) (block .p2 2 [] [.ok, .ok, .ok, .ok] [.after 0, .after 0]) t ∧ t.result = .ok ∧
      Ends (.move 1) t u ∧ u.result = .ok :=
  ⟨ready_p2 _ _, by decide, by decide, _, after 5 (execState (.move 1) (after 5 (moveStarted (-1) [.ok, .ok, .ok, .ok]))),
    ends_move (k := 5) (by decide), by decide,
    ⟨_, 5, exec_eq _ _, endsIn_of_check (by decide)⟩, by decide⟩

theorem witness_ResetFromAnyState : { lastPin .ok with resetIn := some ⟨some .p5, 0⟩ }.resetIn = some ⟨some .p5, 0⟩ :=
  rfl
theorem witness_ResetKeepsOutsideWorld :
    { waiting (.after 1) with resetIn := some ⟨some .p5, 0⟩ }.resetIn = some ⟨some .p5, 0⟩ ∧
    ∃ t, step { waiting (.after 1) with resetIn := some ⟨some .p5, 0⟩ } = .next t := ⟨rfl, _, rfl⟩
theorem witness_OtherVariantRefused : { lastPin .ok with resetIn := some ⟨none, 4⟩ }.resetIn = some ⟨none, 4⟩ := rfl
theorem witness_AbandonedDelayIgnored :
    { waiting (.after 2) with resetIn := some ⟨some .p4, 4⟩ }.resetIn = some ⟨some .p4, 4⟩ ∧
    { waiting (.after 2) with resetIn := some ⟨some .p4, 4⟩ }.phase = .delayWait ∧
    { waiting (.after 2) with resetIn := some ⟨some .p4, 4⟩ }.delayDevice = some (.after 2) ∧
    { waiting (.after 2) with resetIn := some ⟨some .p4, 4⟩ }.cmdPort = [] := by decide
/-- One place for each clause: the command port at 0x100, STATUS at 0x104, nothing at 0. -/
def someMap : PlatformMap := fun a =>
  if a = 0x100 then some .commandPort else if a = 0x104 then some (.register 0x00) else none
theorem witness_PlatformMapPlacesPorts :
    platformRead someMap 0x104 (block .p4 4 [] [] []) = some 0 ∧ platformRead someMap 0 (block .p4 4 [] [] []) = none ∧
    (∃ t, platformWrite someMap 0x100 0x03 (block .p4 4 [] [] []) = some t) ∧
    (block .p4 4 [] [] []).resetIn = none ∧ (block .p4 4 [] [] []).phase = .idle ∧ decode 0x03 = .ok .deenergize :=
  ⟨by decide, by decide, ⟨_, rfl⟩, rfl, rfl, by decide⟩
theorem witness_StepKeepsLegal : (lastPin .ok).Inv ∧ ∃ t, step (lastPin .ok) = .next t :=
  ⟨inv_lastPin _, _, rfl⟩
theorem witness_LegalBlockNeverStops : (lastPin .ok).Inv ∧
    ∀ r, (lastPin .ok).resetIn = some r → r.variant ≠ none := ⟨inv_lastPin _, by intro r h; cases h⟩
theorem witness_ConfigurationNeverChanges : (lastPin .ok).resetIn = none ∧ ∃ t, step (lastPin .ok) = .next t :=
  ⟨rfl, _, rfl⟩
/-- One witness per clause: the index, DIR and REMAINING by a MOVE, STEP_DELAY, REMAINING in DRIVE. -/
theorem witness_ControllerRegisterWriters :
    (stepped (advancing .forward 4 0)).map (·.stepIndex) = some 1 ∧
    (stepped (block .p4 4 [0xFFFFFFFF00000002] [] [])).map (fun t => (t.dir, t.remaining)) = some (.backward, 1) ∧
    (stepped (block .p4 4 [0x0000003C00000001] [] [])).map (·.stepDelay) = some 250000 ∧
    (stepped (lastPin .ok)).map (·.remaining) = some 0 := by decide
theorem witness_ResultOnlyAtCompletion : (lastPin .ok).resetIn = none ∧ (∃ t, step (lastPin .ok) = .next t) ∧
    ∃ t, step (advancing .forward 4 0) = .next t := ⟨rfl, ⟨_, rfl⟩, ⟨_, rfl⟩⟩
theorem witness_PinFailIsPassThrough : (lastPin (.err anError)).resetIn = none ∧ ∃ t, step (lastPin (.err anError)) = .next t ∧
    ∃ evs, t.trace = (lastPin (.err anError)).trace ++ evs ++ [.complete (.pinFail anError)] :=
  ⟨rfl, _, rfl, [.pinWrite 4 .high (.err anError)], rfl⟩
theorem witness_TraceOnlyGrows : ∃ t, step (lastPin .ok) = .next t := ⟨_, rfl⟩
theorem witness_PinsFollowTrace : (block .p4 4 [] [] []).Inv ∧
    (∀ k, 1 ≤ k → readPin (block .p4 4 [] [] []) k = tracePin k (block .p4 4 [] [] []).trace) ∧
    ∃ t, step (block .p4 4 [] [] []) = .next t := by
  refine ⟨inv_block_p4 _ _ _, ?_, _, rfl⟩
  intro k hk
  match k with
  | 1 | 2 | 3 | 4 => decide
  | k + 5 => rfl
theorem witness_PinsAreNeverRead : ∃ t, step (lastPin .ok) = .next t := ⟨_, rfl⟩

end Sys2Proof.Tests
end

