-- ==== Sys2Proof/Proofs/Reset.lean ====
section
/-! SUPPORT. The reset transition of one step (60_exceptions.md R126, 00_scope.md R9), and the statement about the
reset that is refused. -/

namespace Sys2Proof.Machine

/-- An asserted reset wins over every transition (R126). -/
theorem step_of_resetIn {s : State} {r : ResetInput} (hr : s.resetIn = some r) : step s = takeReset r s := by
  simp only [step, hr]

@[simp] theorem takeReset_none (n : U32) (s : State) :
    takeReset ⟨none, n⟩ s = .refused .variantNotConfigurable := rfl

@[simp] theorem takeReset_some (v : Variant) (n : U32) (s : State) :
    takeReset ⟨some v, n⟩ s = .next (applyReset v n s) := rfl

/-- Settles O38: the asserted reset is the step taken, and with no legal VARIANT it is refused (R9). -/
theorem otherVariantRefused : Obligations.OtherVariantRefused := by
  intro s n hr
  calc step s = takeReset ⟨none, n⟩ s := step_of_resetIn hr
    _ = .refused .variantNotConfigurable := takeReset_none n s

end Sys2Proof.Machine
end

/-! SUPPORT. Proofs about the state of the block (10_state.md): what each transition leaves in the fields, the
invariant that every step keeps, and the statements settled from them. -/

namespace Sys2Proof.Machine

/-! ### One equation per operation that branches, and the frame of each transition -/

/-- A pin write changes the pin, the trace and the answers still to come, and nothing else (R51, R52). -/
theorem pinWrite_eq (k : Nat) (lvl : Level) (s : State) :
    pinWrite k lvl s =
      { s with pins := s.pins.set (k - 1) (levelAfter lvl (pinAnswerOf s))
               trace := s.trace ++ [.pinWrite k lvl (pinAnswerOf s)]
               gpioAnswers := s.gpioAnswers.tail
               pinDraws := if s.gpioAnswers = [] then s.pinDraws + 1 else s.pinDraws } := by
  cases h : s.gpioAnswers <;> simp [pinWrite, takePinAnswer, setPin, emit, h]

/-- DELAY_ISSUE as one record (R55, R102). -/
theorem delayIssue_eq (s : State) :
    delayIssue s =
      { s with delayPending := true
               phase := .delayWait
               trace := s.trace ++ [.delayReq s.stepDelay]
               delayAnswers := s.delayAnswers.tail
               delayDraws := if s.delayAnswers = [] then s.delayDraws + 1 else s.delayDraws
               delayDevice := some (delayAnswerOf s) } := by
  cases h : s.delayAnswers <;> simp [delayIssue, startDelay, delayAnswerOf, emit, h]

/-- MOVE 0 completes OK at once (R100). -/
theorem execState_move_of_eq_zero {n : Int} (hm : moveMagnitude n = 0) (s : State) :
    execState (.move n) s = complete .ok { s with dir := moveDir n, remaining := 0 } :=
  if_pos hm

/-- A MOVE of at least one step goes on to DELAY_ISSUE (R100). -/
theorem execState_move_of_ne_zero {n : Int} (hm : moveMagnitude n ≠ 0) (s : State) :
    execState (.move n) s =
      { s with dir := moveDir n, remaining := moveMagnitude n, curOp := .move, phase := .delayIssue, busy := true } :=
  if_neg hm

/-- No command's accepting transition writes the configuration, STEP_INDEX or a pin (R22, R26, R97, R100, R86). -/
@[simp] theorem execState_frame (i : Instr) (s : State) :
    (execState i s).variant = s.variant ∧ (execState i s).numSteps = s.numSteps ∧
    (execState i s).stepIndex = s.stepIndex ∧ (execState i s).pins = s.pins := by
  cases i with
  | move n =>
    by_cases hm : moveMagnitude n = 0
    · simp [execState_move_of_eq_zero hm]
    · simp [execState_move_of_ne_zero hm]
  | setSpeed | deenergize | seqStep | seqClear => simp [execState]

@[simp] theorem afterFetch_frame (w : CmdWord) (rest : List CmdWord) (s : State) :
    (afterFetch w rest s).variant = s.variant ∧ (afterFetch w rest s).numSteps = s.numSteps ∧
    (afterFetch w rest s).stepIndex = s.stepIndex ∧ (afterFetch w rest s).dir = s.dir ∧
    (afterFetch w rest s).stepDelay = s.stepDelay ∧ (afterFetch w rest s).remaining = s.remaining ∧
    (afterFetch w rest s).pins = s.pins :=
  ⟨rfl, rfl, rfl, rfl, rfl, rfl, rfl⟩

@[simp] theorem raiseIllegal_frame (s : State) :
    (raiseIllegal s).variant = s.variant ∧ (raiseIllegal s).numSteps = s.numSteps ∧
    (raiseIllegal s).stepIndex = s.stepIndex ∧ (raiseIllegal s).dir = s.dir ∧
    (raiseIllegal s).stepDelay = s.stepDelay ∧ (raiseIllegal s).remaining = s.remaining :=
  ⟨rfl, rfl, rfl, rfl, rfl, rfl⟩

@[simp] theorem delayIssue_frame (s : State) :
    (delayIssue s).variant = s.variant ∧ (delayIssue s).numSteps = s.numSteps ∧
    (delayIssue s).stepIndex = s.stepIndex ∧ (delayIssue s).dir = s.dir ∧
    (delayIssue s).stepDelay = s.stepDelay ∧ (delayIssue s).remaining = s.remaining ∧
    (delayIssue s).result = s.result ∧ (delayIssue s).lastErr = s.lastErr ∧ (delayIssue s).pins = s.pins := by
  simp [delayIssue_eq]

@[simp] theorem delayIssue_trace (s : State) : (delayIssue s).trace = s.trace ++ [.delayReq s.stepDelay] := by
  simp [delayIssue_eq]

@[simp] theorem consumeDelayDone_frame (s : State) :
    (consumeDelayDone s).variant = s.variant ∧ (consumeDelayDone s).numSteps = s.numSteps ∧
    (consumeDelayDone s).stepIndex = s.stepIndex ∧ (consumeDelayDone s).dir = s.dir ∧
    (consumeDelayDone s).stepDelay = s.stepDelay ∧ (consumeDelayDone s).remaining = s.remaining :=
  ⟨rfl, rfl, rfl, rfl, rfl, rfl⟩

@[simp] theorem advance_frame (s : State) :
    (advance s).variant = s.variant ∧ (advance s).numSteps = s.numSteps ∧ (advance s).dir = s.dir ∧
    (advance s).stepDelay = s.stepDelay ∧ (advance s).remaining = s.remaining :=
  ⟨rfl, rfl, rfl, rfl, rfl⟩

/-- What DRIVE does with an answer touches neither the configuration nor STEP_INDEX, DIR, STEP_DELAY or a pin
(R92, R93, R108, R109). -/
@[simp] theorem driveAnswered_frame (k : Nat) (r : PinAnswer) (s : State) :
    (driveAnswered k r s).variant = s.variant ∧ (driveAnswered k r s).numSteps = s.numSteps ∧
    (driveAnswered k r s).stepIndex = s.stepIndex ∧ (driveAnswered k r s).dir = s.dir ∧
    (driveAnswered k r s).stepDelay = s.stepDelay ∧ (driveAnswered k r s).pins = s.pins := by
  obtain ⟨-, -, h⟩ | ⟨-, -, -, h⟩ | ⟨-, -, -, -, h⟩ | ⟨-, -, -, -, h⟩ | ⟨e, -, h⟩ := driveAnswered_cases k r s <;>
    simp [h]

/-! ### What the operands compute stays in range -/

theorem moveMagnitude_toNat {n : Int} (hn : (Instr.move n).wf = true) : (moveMagnitude n).toNat = n.natAbs := by
  simp only [Instr.wf, Bool.and_eq_true, decide_eq_true_eq] at hn
  have habs : (if n < 0 then (-n).toNat else n.toNat) = n.natAbs := by split <;> omega
  rw [moveMagnitude, habs, wrap32, BitVec.toNat_ofNat, Nat.mod_eq_of_lt (by omega)]

theorem stepDelayOf_le (n rpm : Nat) : stepDelayOf n rpm ≤ 60000000 := by
  unfold stepDelayOf
  split
  · exact Nat.zero_le _
  · exact (Nat.div_le_self _ _).trans (Nat.div_le_self _ _)

theorem wrap32_toNat_le (n : Nat) : (wrap32 n).toNat ≤ n := by
  rw [wrap32, BitVec.toNat_ofNat]
  exact Nat.mod_le _ _

/-- `nextIndex` stays below a NUM_STEPS that is not 0 (R105). -/
theorem nextIndex_lt {i n : U32} (d : Direction) (h : i.toNat < n.toNat) : (nextIndex i d n).toNat < n.toNat := by
  cases d with
  | forward =>
    simp only [nextIndex]
    split <;> bv_omega
  | backward =>
    simp only [nextIndex]
    split <;> bv_omega

/-! ### The invariant -/

/-- The part of the invariant that does not speak of the FSM: the stored values are in range (R25, R28, R30, R35,
R38). -/
structure State.ValuesInRange (s : State) : Prop where
  remaining_le : s.remaining.toNat ≤ 2 ^ 31
  index_lt : s.numSteps ≠ 0 → s.stepIndex.toNat < s.numSteps.toNat
  delay_le : s.stepDelay.toNat ≤ 60000000
  pattern_lt : s.pattern.toNat < 2 ^ s.variant.npins
  pins_length : s.pins.length = s.variant.npins

namespace State.Inv

variable {s : State}

theorem valuesInRange (h : s.Inv) : s.ValuesInRange :=
  ⟨h.remaining_le, h.index_lt, h.delay_le, h.pattern_lt, h.pins_length⟩

/-- Outside DELAY_WAIT no request is pending (R34). -/
theorem delayPending_eq_false (h : s.Inv) (hp : s.phase ≠ .delayWait) : s.delayPending = false := by
  simpa using mt h.pending_iff.mp hp

/-- Outside DELAY_WAIT the delay device works on no request (R55). -/
theorem delayDevice_eq_none (h : s.Inv) (hp : s.phase ≠ .delayWait) : s.delayDevice = none := by
  simpa [h.delayPending_eq_false hp] using h.device_iff

end State.Inv

/-- However a command ends, the block it leaves is legal (R37). -/
theorem complete_inv {s : State} (r : Completion) (hv : s.ValuesInRange) (hd : s.delayDevice = none) :
    (complete r s).Inv :=
  { hv with
    busy_iff := by simp
    op_none_iff := by simp
    op_move := by simp
    cursor_zero := by simp
    cursor_range := by simp
    pending_iff := by simp
    device_iff := by simp [hd]
    remaining_pos := by simp
    err_iff := by cases r <;> simp [Completion.code, Completion.err] }

theorem applyReset_inv (v : Variant) (n : U32) (s : State) : (applyReset v n s).Inv where
  busy_iff := by simp
  op_none_iff := by simp
  op_move := by simp
  cursor_zero := by simp
  cursor_range := by simp
  pending_iff := by simp
  device_iff := by simp
  remaining_pos := by simp
  remaining_le := by simp
  index_lt := by
    intro hn
    have : n.toNat ≠ 0 := fun h0 => hn (BitVec.eq_of_toNat_eq (by simpa using h0))
    simpa using Nat.pos_of_ne_zero this
  delay_le := by simp
  pattern_lt := by simp
  err_iff := by simp
  pins_length := by simp

section
variable {s : State} (h : s.Inv)
include h

theorem waitStep_inv : (waitStep s).Inv := { h with }

theorem afterFetch_inv (w : CmdWord) (rest : List CmdWord) : (afterFetch w rest s).Inv := { h with }

theorem pinWrite_inv (k : Nat) (lvl : Level) : (pinWrite k lvl s).Inv := by
  rw [pinWrite_eq]
  exact { h with pins_length := by simpa using h.pins_length }

/-- Every sequencer command starts legally (R86, R90, R117). -/
theorem startDrive_inv {op : CurOp} {p : BitVec 5} (hp : s.phase = .idle) (hnone : op ≠ .none) (hmove : op ≠ .move)
    (hlt : p.toNat < 2 ^ s.variant.npins) : (startDrive op p s).Inv :=
  { h with
    busy_iff := by simp
    op_none_iff := by simp [hnone]
    op_move := by simp
    cursor_zero := by simp
    cursor_range := by cases hv : s.variant <;> simp [hv, Variant.npins]
    pending_iff := by simp [h.delayPending_eq_false, hp]
    remaining_pos := by simp [hmove]
    pattern_lt := hlt }

theorem execState_inv {i : Instr} (hi : i.wf = true) (hp : s.phase = .idle) : (execState i s).Inv := by
  have hdev : s.delayDevice = none := h.delayDevice_eq_none (by simp [hp])
  have hzero : (0 : BitVec 5).toNat < 2 ^ s.variant.npins := by simp
  cases i with
  | setSpeed rpm =>
    have hle := (wrap32_toNat_le _).trans (stepDelayOf_le s.numSteps.toNat rpm)
    exact complete_inv .ok { h.valuesInRange with delay_le := hle } hdev
  | move n =>
    by_cases hm : moveMagnitude n = 0
    · rw [execState_move_of_eq_zero hm]
      exact complete_inv .ok { h.valuesInRange with remaining_le := by simp } hdev
    · rw [execState_move_of_ne_zero hm]
      have hlen : n.natAbs ≤ 2 ^ 31 := by
        simp only [Instr.wf, Bool.and_eq_true, decide_eq_true_eq] at hi
        omega
      exact { h with
        busy_iff := by simp
        op_none_iff := by simp
        op_move := by simp
        cursor_zero := fun _ => h.cursor_zero (by simp [hp])
        cursor_range := by simp
        pending_iff := by simp [h.delayPending_eq_false, hp]
        remaining_pos := fun _ => hm
        remaining_le := (moveMagnitude_toNat hi).trans_le hlen }
  | deenergize => exact startDrive_inv h hp (by decide) (by decide) hzero
  | seqStep i => exact startDrive_inv h hp (by decide) (by decide) (patternOf_lt _ _)
  | seqClear => exact startDrive_inv h hp (by decide) (by decide) hzero

theorem delayIssue_inv (hp : s.phase = .delayIssue) : (delayIssue s).Inv := by
  have hop : s.curOp = .move := h.op_move (.inl hp)
  rw [delayIssue_eq]
  exact { h with
    busy_iff := by simp [h.busy_iff, hp]
    op_none_iff := by simp [hop]
    op_move := fun _ => hop
    cursor_zero := fun _ => h.cursor_zero (by simp [hp])
    cursor_range := by simp
    pending_iff := by simp
    device_iff := rfl }

theorem consumeDelayDone_inv (hp : s.phase = .delayWait) : (consumeDelayDone s).Inv := by
  have hop : s.curOp = .move := h.op_move (.inr (.inl hp))
  exact { h with
    busy_iff := by simp [consumeDelayDone, h.busy_iff, hp]
    op_none_iff := by simp [consumeDelayDone, hop]
    op_move := fun _ => hop
    cursor_zero := fun _ => h.cursor_zero (by simp [hp])
    cursor_range := by simp [consumeDelayDone]
    pending_iff := by simp [consumeDelayDone]
    device_iff := rfl }

/-- Counting down the wait of a pending request keeps the block legal (R55). -/
theorem setDelayDevice_inv (hq : s.delayPending = true) (a : DelayAnswer) :
    { s with delayDevice := some a }.Inv :=
  { h with device_iff := by simp [hq] }

theorem advance_inv (hp : s.phase = .advance) : (advance s).Inv := by
  have hop : s.curOp = .move := h.op_move (.inr (.inr hp))
  exact { h with
    busy_iff := by simp [advance, h.busy_iff, hp]
    op_none_iff := by simp [advance, hop]
    op_move := by simp [advance]
    cursor_zero := by simp [advance]
    cursor_range := by cases hv : s.variant <;> simp [advance, hv, Variant.npins]
    pending_iff := by simp [advance, h.delayPending_eq_false, hp]
    index_lt := fun hn => nextIndex_lt s.dir (h.index_lt hn)
    pattern_lt := patternOf_lt _ _ }

/-- Whatever the answer, DRIVE leaves a legal block (R92, R93, R108). -/
theorem driveAnswered_inv (r : PinAnswer) (hp : s.phase = .drive) : (driveAnswered s.pinCursor r s).Inv := by
  have hdev : s.delayDevice = none := h.delayDevice_eq_none (by simp [hp])
  have hv : s.ValuesInRange := h.valuesInRange
  obtain ⟨-, hlt, heq⟩ | ⟨-, -, -, heq⟩ | ⟨-, -, -, -, heq⟩ | ⟨-, -, hop, hrem, heq⟩ | ⟨e, -, heq⟩ :=
    driveAnswered_cases s.pinCursor r s <;> rw [heq]
  · exact { h with
      cursor_zero := fun hne => absurd hp hne
      cursor_range := fun _ => ⟨by simp, hlt⟩ }
  · exact complete_inv .ok { hv with } hdev
  · exact complete_inv .ok { hv with remaining_le := by simp } hdev
  · have hle : (s.remaining - 1).toNat ≤ 2 ^ 31 := by
      have := h.remaining_pos hop
      have := h.remaining_le
      bv_omega
    exact { h with
      busy_iff := by simp [h.busy_iff, hp]
      op_none_iff := by simp [hop]
      op_move := fun _ => hop
      cursor_zero := by simp
      cursor_range := by simp
      pending_iff := by simp [h.delayPending_eq_false, hp]
      remaining_pos := fun _ => hrem
      remaining_le := hle }
  · exact complete_inv (.pinFail e) hv hdev

end

/-- Settles O42: each transition keeps the invariant. -/
theorem stepKeepsLegal : Obligations.StepKeepsLegal := by
  intro s t h hstep
  cases step_took hstep with
  | reset v n => exact applyReset_inv v n s
  | idleWait => exact waitStep_inv h
  | command w rest i _ hp _ hd => exact execState_inv (afterFetch_inv h w rest) (decode_wf hd) hp
  | illegal w rest _ _ hp =>
    exact complete_inv .illegal (afterFetch_inv h w rest).valuesInRange (h.delayDevice_eq_none (by simp [hp]))
  | delayIssue _ hp => exact delayIssue_inv h hp
  | delayDone _ hp => exact consumeDelayDone_inv h hp
  | delayTick n _ _ hq => exact waitStep_inv (setDelayDevice_inv h hq (.after n))
  | delayHang => exact waitStep_inv h
  | advance _ hp => exact advance_inv h hp
  | drive _ hp =>
    simpa using driveAnswered_inv (pinWrite_inv h s.pinCursor (levelOf s.pattern s.pinCursor)) (pinAnswerOf s)
      (by simpa using hp)

/-! ### A transition that is enabled is the step taken -/

/-- The converse of `step_took`: the step is the transition that PHASE, the port and the devices enable (R31). -/
theorem step_of_took {s t : State} (ht : Took s t) : step s = .next t := by
  cases ht with
  | reset v n h => rw [step_of_resetIn h, takeReset_some]
  | idleWait hr hp hc => simp [step, hr, hp, accept, fetch, hc]
  | command w rest i hr hp hc hd => simp [step, hr, hp, accept, fetch, hc, acceptWord, hd, exec_eq, afterFetch]
  | illegal w rest why hr hp hc hd => simp [step, hr, hp, accept, fetch, hc, acceptWord, hd, afterFetch]
  | delayIssue hr hp => simp [step, hr, hp]
  | delayDone hr hp hq hd => simp [step, hr, hp, delayWait, hq, hd]
  | delayTick n hr hp hq hd => simp [step, hr, hp, delayWait, hq, hd]
  | delayHang hr hp hq hd => simp [step, hr, hp, delayWait, hq, hd]
  | advance hr hp => simp [step, hr, hp]
  | drive hr hp h1 h2 => simp [step, hr, hp, drive, h1, h2]

/-- In IDLE with no reset asserted some transition is always enabled: a word is taken, or the block waits. -/
theorem exists_took_of_idle {s : State} (hr : s.resetIn = none) (hp : s.phase = .idle) : ∃ t, Took s t := by
  cases hc : s.cmdPort with
  | nil => exact ⟨_, .idleWait hr hp hc⟩
  | cons w rest =>
    cases hd : decode w with
    | ok i => exact ⟨_, .command w rest i hr hp hc hd⟩
    | error why => exact ⟨_, .illegal w rest why hr hp hc hd⟩

/-- While a request is pending at the device, DELAY_WAIT consumes its answer or waits for it (R103, R154). -/
theorem exists_took_of_delayWait {s : State} (hr : s.resetIn = none) (hp : s.phase = .delayWait)
    (hq : s.delayPending = true) (hd : s.delayDevice.isSome = true) : ∃ t, Took s t := by
  obtain ⟨a, ha⟩ := Option.isSome_iff_exists.mp hd
  match a with
  | .after 0 => exact ⟨_, .delayDone hr hp hq ha⟩
  | .after (n + 1) => exact ⟨_, .delayTick n hr hp hq ha⟩
  | .never => exact ⟨_, .delayHang hr hp hq ha⟩

/-- Settles O44: in each phase the invariant enables a transition. -/
theorem legalBlockNeverStops : Obligations.LegalBlockNeverStops := by
  intro s h hreset
  suffices ∃ t, Took s t from this.imp fun _ => step_of_took
  match hr : s.resetIn with
  | some ⟨some v, n⟩ => exact ⟨_, .reset v n hr⟩
  | some ⟨none, n⟩ => exact absurd rfl (hreset _ hr)
  | none =>
    cases hp : s.phase with
    | idle => exact exists_took_of_idle hr hp
    | delayIssue => exact ⟨_, .delayIssue hr hp⟩
    | delayWait =>
      have hq := h.pending_iff.mpr hp
      exact exists_took_of_delayWait hr hp hq (h.device_iff.trans hq)
    | advance => exact ⟨_, .advance hr hp⟩
    | drive => exact ⟨_, .drive hr hp (h.cursor_range hp).1 (h.cursor_range hp).2⟩

/-- Settles O39: the reset counts the abandoned request's answer, and the wait in IDLE that follows counts it off. -/
theorem abandonedDelayIgnored : Obligations.AbandonedDelayIgnored := by
  intro s v n m hr _ hd hc
  have hab : abandonedBy s = 1 := by simp [abandonedBy, hd]
  have hwait : step (applyReset v n s) = .next (waitStep (applyReset v n s)) :=
    step_of_took (.idleWait rfl rfl hc)
  refine ⟨applyReset v n s, step_of_took (.reset v n hr), by simp [hab], rfl, hwait.trans ?_⟩
  simp [waitStep, hab]

/-! ### The read port -/

/-- Concatenation as arithmetic: the left word is shifted up by the width of the right one. -/
theorem toNat_append_eq_add {m n : Nat} (x : BitVec m) (y : BitVec n) :
    (x ++ y).toNat = x.toNat * 2 ^ n + y.toNat := by
  rw [BitVec.toNat_append, ← Nat.shiftLeft_add_eq_or_of_lt y.isLt, Nat.shiftLeft_eq]

/-- STATUS as the weighted sum of its fields (R41). -/
theorem statusReg_toNat (s : State) :
    (statusReg s).toNat = s.curOp.code.toNat * 2 ^ 8 + s.phase.code.toNat * 2 ^ 4 + s.result.code.toNat * 2 +
      (BitVec.ofBool s.busy).toNat := by
  simp only [statusReg, toNat_append_eq_add, BitVec.ofNat_eq_ofNat, BitVec.toNat_ofNat]
  omega

/-- CONFIG of the three variants (R42). -/
theorem configReg_eq (v : Variant) :
    configReg v = match v with | .p2 => 0x00000402 | .p4 => 0x00000404 | .p5 => 0x00000A05 := by
  cases v <;> decide

/-- DIRECTION reads DIR's bit, zero-extended (R24, R39). -/
theorem directionReg_toNat (s : State) : (readReg s 0x03).toNat = s.dir.code.toNat := by
  have heq : readReg s 0x03 = (0 : BitVec 31) ++ s.dir.code := rfl
  rw [heq, toNat_append_eq_add]
  simp

theorem readReg_eq_zero_of_le {reg : BitVec 8} (s : State) (h : 8 ≤ reg.toNat) : readReg s reg = 0 := by
  obtain ⟨m, hm⟩ := Nat.exists_eq_add_of_le' h
  simp only [readReg, hm]

/-- The register numbers of the register map (R39), and the rest. -/
theorem register_cases (reg : BitVec 8) :
    reg = 0x00 ∨ reg = 0x01 ∨ reg = 0x02 ∨ reg = 0x03 ∨ reg = 0x04 ∨ reg = 0x05 ∨ reg = 0x06 ∨ reg = 0x07 ∨
      8 ≤ reg.toNat := by
  simp only [← BitVec.toNat_inj, BitVec.ofNat_eq_ofNat, BitVec.toNat_ofNat]
  omega

/-- Settles O40: STATUS by the sum of its fields, the others by the register map. -/
theorem readPortRegisters : Obligations.ReadPortRegisters := by
  intro s reg
  refine ⟨(statusReg_toNat s).trans ?_, rfl, rfl, ?_, rfl, ?_, rfl, ?_, readReg_eq_zero_of_le s⟩
  · refine congrArg₂ (· + ·) (congrArg₂ (· + ·) (congrArg₂ (· + ·) (congrArg (· * 2 ^ 8) ?_)
      (congrArg (· * 2 ^ 4) ?_)) (congrArg (· * 2) ?_)) ?_
    · cases s.curOp <;> rfl
    · cases s.phase <;> rfl
    · cases s.result <;> rfl
    · cases s.busy <;> rfl
  · rw [directionReg_toNat]
    cases s.dir <;> rfl
  · exact (configReg_eq s.variant).trans (by cases s.variant <;> rfl)
  · have herr : readReg s 0x07 = lastErrReg s.lastErr := rfl
    rw [herr]
    cases s.lastErr <;> rfl

/-- Settles O41: every register of the map is evaluated on the block right after reset. -/
theorem registersAfterReset : Obligations.RegistersAfterReset := by
  refine ⟨fun v n reg => ?_, rfl⟩
  by_cases h1 : reg = 0x01
  · rw [if_pos h1, h1]
    rfl
  by_cases h5 : reg = 0x05
  · rw [if_neg h1, if_pos h5, h5]
    exact (configReg_eq v).trans (by cases v <;> rfl)
  rw [if_neg h1, if_neg h5]
  obtain rfl | rfl | rfl | rfl | rfl | rfl | rfl | rfl | h := register_cases reg
  · have hzero : (readReg (State.construct v n) 0x00).toNat = 0 :=
      (statusReg_toNat _).trans (by simp [State.construct, CurOp.code, Phase.code, ResultCode.code])
    exact BitVec.eq_of_toNat_eq hzero
  · exact absurd rfl h1
  · rfl
  · exact BitVec.eq_of_toNat_eq (directionReg_toNat _)
  · rfl
  · exact absurd rfl h5
  · rfl
  · rfl
  · exact readReg_eq_zero_of_le _ h

/-! ### Who writes which register -/

/-- Settles O45: VARIANT and NUM_STEPS are in the frame of every transition but the reset. -/
theorem configurationNeverChanges : Obligations.ConfigurationNeverChanges := by
  intro s t hr hstep
  cases step_took hstep with
  | reset v n h => simp [hr] at h
  | _ => simp

/-- Of the commands only MOVE writes DIR (R24). -/
theorem execState_dir_ne {i : Instr} {s : State} (h : (execState i s).dir ≠ s.dir) : ∃ n, i = .move n := by
  cases i with
  | move n => exact ⟨n, rfl⟩
  | setSpeed | deenergize | seqStep | seqClear => exact absurd rfl h

/-- Of the commands only MOVE writes REMAINING (R28). -/
theorem execState_remaining_ne {i : Instr} {s : State} (h : (execState i s).remaining ≠ s.remaining) :
    ∃ n, i = .move n := by
  cases i with
  | move n => exact ⟨n, rfl⟩
  | setSpeed | deenergize | seqStep | seqClear => exact absurd rfl h

/-- Of the commands only SET_SPEED writes STEP_DELAY (R25). -/
theorem execState_stepDelay_ne {i : Instr} {s : State} (h : (execState i s).stepDelay ≠ s.stepDelay) :
    ∃ rpm, i = .setSpeed rpm := by
  cases i with
  | setSpeed rpm => exact ⟨rpm, rfl⟩
  | move n =>
    by_cases hm : moveMagnitude n = 0
    · simp [execState_move_of_eq_zero hm] at h
    · simp [execState_move_of_ne_zero hm] at h
  | deenergize | seqStep | seqClear => exact absurd rfl h

/-- DRIVE counts a physical step off only after an Ok to the last pin of a MOVE's step (R92, R108). -/
theorem driveAnswered_remaining_ne {k : Nat} {r : PinAnswer} {s : State}
    (h : (driveAnswered k r s).remaining ≠ s.remaining) : r = .ok ∧ s.variant.npins ≤ k ∧ s.curOp = .move := by
  obtain ⟨-, -, heq⟩ | ⟨-, -, -, heq⟩ | ⟨hr, hk, hop, -⟩ | ⟨hr, hk, hop, -⟩ | ⟨e, -, heq⟩ := driveAnswered_cases k r s
  · simp [heq] at h
  · simp [heq] at h
  · exact ⟨hr, hk, hop⟩
  · exact ⟨hr, hk, hop⟩
  · simp [heq] at h

section
variable {s t : State} (hr : s.resetIn = none) (ht : Took s t)
include hr ht

theorem Took.stepIndex_ne (h : t.stepIndex ≠ s.stepIndex) : s.phase = .advance := by
  cases ht with
  | reset v n hv => simp [hr] at hv
  | advance _ hp => exact hp
  | _ => simp at h

theorem Took.dir_ne (h : t.dir ≠ s.dir) :
    s.phase = .idle ∧ ∃ w rest n, s.cmdPort = w :: rest ∧ decode w = .ok (.move n) := by
  cases ht with
  | reset v n hv => simp [hr] at hv
  | command w rest i _ hp hc hd =>
    obtain ⟨n, rfl⟩ := execState_dir_ne h
    exact ⟨hp, w, rest, n, hc, hd⟩
  | _ => simp at h

theorem Took.stepDelay_ne (h : t.stepDelay ≠ s.stepDelay) :
    s.phase = .idle ∧ ∃ w rest rpm, s.cmdPort = w :: rest ∧ decode w = .ok (.setSpeed rpm) := by
  cases ht with
  | reset v n hv => simp [hr] at hv
  | command w rest i _ hp hc hd =>
    obtain ⟨rpm, rfl⟩ := execState_stepDelay_ne h
    exact ⟨hp, w, rest, rpm, hc, hd⟩
  | _ => simp at h

theorem Took.remaining_ne (h : t.remaining ≠ s.remaining) :
    (s.phase = .idle ∧ ∃ w rest n, s.cmdPort = w :: rest ∧ decode w = .ok (.move n)) ∨
    (s.phase = .drive ∧ s.curOp = .move ∧ s.pinCursor = s.variant.npins ∧ pinAnswerOf s = .ok) := by
  cases ht with
  | reset v n hv => simp [hr] at hv
  | command w rest i _ hp hc hd =>
    obtain ⟨n, rfl⟩ := execState_remaining_ne h
    exact .inl ⟨hp, w, rest, n, hc, hd⟩
  | drive _ hp _ hle =>
    obtain ⟨hok, hge, hop⟩ := driveAnswered_remaining_ne fun heq => h (heq.trans (pinWrite_remaining s _ _))
    exact .inr ⟨hp, by simpa using hop, hle.antisymm (by simpa using hge), hok⟩
  | _ => simp at h

end

/-- Settles O46, register by register. -/
theorem controllerRegisterWriters : Obligations.ControllerRegisterWriters := by
  intro s t hr hstep
  have ht := step_took hstep
  exact ⟨ht.stepIndex_ne hr, ht.dir_ne hr, ht.stepDelay_ne hr, ht.remaining_ne hr⟩

/-! ### RESULT, LAST_ERR and the end of a command -/

/-- From `s` to `t` nothing is reported, or the command completes and `Complete` is the only event. -/
def SilentOrCompletes (s t : State) : Prop :=
  (t.result = s.result ∧ t.lastErr = s.lastErr ∧ t.trace = s.trace) ∨ ∃ c u, u.trace = s.trace ∧ t = complete c u

theorem SilentOrCompletes.of_eq {s t : State} (hres : t.result = s.result) (herr : t.lastErr = s.lastErr)
    (htr : t.trace = s.trace) : SilentOrCompletes s t :=
  .inl ⟨hres, herr, htr⟩

theorem SilentOrCompletes.of_complete {s u : State} (c : Completion) (hu : u.trace = s.trace) :
    SilentOrCompletes s (complete c u) :=
  .inr ⟨c, u, hu, rfl⟩

theorem execState_silentOrCompletes (i : Instr) (s : State) : SilentOrCompletes s (execState i s) := by
  cases i with
  | setSpeed rpm => exact .of_complete .ok rfl
  | move n =>
    by_cases hm : moveMagnitude n = 0
    · rw [execState_move_of_eq_zero hm]
      exact .of_complete .ok rfl
    · rw [execState_move_of_ne_zero hm]
      exact .of_eq rfl rfl rfl
  | deenergize | seqStep | seqClear => exact .of_eq rfl rfl rfl

theorem driveAnswered_silentOrCompletes (k : Nat) (r : PinAnswer) (s : State) :
    SilentOrCompletes s (driveAnswered k r s) := by
  obtain ⟨-, -, h⟩ | ⟨-, -, -, h⟩ | ⟨-, -, -, -, h⟩ | ⟨-, -, -, -, h⟩ | ⟨e, -, h⟩ := driveAnswered_cases k r s <;>
    rw [h]
  · exact .of_eq rfl rfl rfl
  · exact .of_complete .ok rfl
  · exact .of_complete .ok rfl
  · exact .of_eq rfl rfl rfl
  · exact .of_complete (.pinFail e) rfl

/-- `u` is `s` after events none of which is a `Complete`, with the result of the command before still standing. -/
structure RunsTo (s u : State) (evs : List Event) : Prop where
  result : u.result = s.result
  lastErr : u.lastErr = s.lastErr
  trace : u.trace = s.trace ++ evs
  no_complete : ∀ e ∈ evs, e.isComplete = false

/-- Every transition but the reset first records its own events, and then is silent or completes (R37, R58). -/
theorem Took.runsTo_then {s t : State} (hr : s.resetIn = none) (ht : Took s t) :
    ∃ u evs, RunsTo s u evs ∧ SilentOrCompletes u t := by
  cases ht with
  | reset v n h => simp [hr] at h
  | command w rest i =>
    exact ⟨afterFetch w rest s, [.accept w], ⟨rfl, rfl, rfl, by simp [Event.isComplete]⟩,
      execState_silentOrCompletes i _⟩
  | illegal w rest =>
    exact ⟨afterFetch w rest s, [.accept w], ⟨rfl, rfl, rfl, by simp [Event.isComplete]⟩,
      .of_complete .illegal rfl⟩
  | delayIssue =>
    exact ⟨Machine.delayIssue s, [.delayReq s.stepDelay],
      ⟨by simp, by simp, by simp, by simp [Event.isComplete]⟩, .of_eq rfl rfl rfl⟩
  | delayDone =>
    exact ⟨consumeDelayDone s, [.delayDone], ⟨rfl, rfl, rfl, by simp [Event.isComplete]⟩, .of_eq rfl rfl rfl⟩
  | drive =>
    exact ⟨pinWrite s.pinCursor (levelOf s.pattern s.pinCursor) s, [_],
      ⟨by simp, by simp, pinWrite_trace s _ _, by simp [Event.isComplete]⟩, driveAnswered_silentOrCompletes _ _ _⟩
  | idleWait | delayTick | delayHang | advance =>
    exact ⟨s, [], ⟨rfl, rfl, (List.append_nil _).symm, by simp⟩, .of_eq rfl rfl rfl⟩

/-- Settles O47: the completion, if there is one, is the transition's last event (R37). -/
theorem resultOnlyAtCompletion : Obligations.ResultOnlyAtCompletion := by
  intro s t hr hstep
  obtain ⟨u, evs, ⟨hres, herr, htr, hevs⟩, ⟨hres', herr', htr'⟩ | ⟨c, v, hv, rfl⟩⟩ := (step_took hstep).runsTo_then hr
  · exact .inl ⟨hres'.trans hres, herr'.trans herr, evs, htr'.trans htr, hevs⟩
  · have htrace : (complete c v).trace = s.trace ++ evs ++ [.complete c] := by rw [complete_trace, hv, htr]
    refine .inr ⟨c, evs, htrace, hevs, rfl, rfl, rfl, rfl, rfl, ?_⟩
    cases c with
    | ok => exact .inl ⟨rfl, rfl, rfl⟩
    | illegal => exact .inr (.inl ⟨rfl, rfl, rfl⟩)
    | pinFail e => exact .inr (.inr ⟨e, rfl, rfl, rfl⟩)

/-! ### The pin levels and the trace -/

/-- Every pin has the level that the trace leaves on it (R38, R52). -/
def PinsTraced (s : State) : Prop := ∀ k, 1 ≤ k → readPin s k = tracePin k s.trace

@[simp] theorem tracePin_concat (k : Nat) (tr : List Event) (e : Event) :
    tracePin k (tr ++ [e]) = pinAfter k (tracePin k tr) e := by
  simp [tracePin]

namespace PinsTraced

variable {s t : State}

theorem congr (h : PinsTraced s) (hp : t.pins = s.pins) (htr : t.trace = s.trace) : PinsTraced t := by
  intro k hk
  rw [readPin_congr hp, htr, h k hk]

/-- An event that is no pin write and no reset leaves every level alone. -/
theorem concat (h : PinsTraced s) (e : Event) (he : ∀ k l, pinAfter k l e = l) (hp : t.pins = s.pins)
    (htr : t.trace = s.trace ++ [e]) : PinsTraced t := by
  intro k hk
  rw [readPin_congr hp, htr, tracePin_concat, he, h k hk]

theorem silentOrCompletes (h : PinsTraced s) (hp : t.pins = s.pins) (hst : SilentOrCompletes s t) : PinsTraced t := by
  obtain ⟨-, -, htr⟩ | ⟨c, u, hu, rfl⟩ := hst
  · exact h.congr hp htr
  · exact h.concat (.complete c) (fun _ _ => rfl) hp (by rw [complete_trace, hu])

/-- A write of an existing pin is seen on the pin as it is in the trace (R52). -/
theorem pinWrite (h : PinsTraced s) {j : Nat} (lvl : Level) (hj : 1 ≤ j) (hle : j ≤ s.pins.length) :
    PinsTraced (pinWrite j lvl s) := by
  intro k hk
  rw [pinWrite_trace, tracePin_concat]
  by_cases hkj : j = k
  · subst hkj
    simp [pinAfter, readPin_pinWrite_same s lvl hj hle]
  · simp [pinAfter, hkj, readPin_pinWrite_other s lvl hj (Ne.symm hkj), h k hk]

end PinsTraced

/-- After a reset every pin is UNKNOWN, and so the trace says (R139). -/
theorem pinsTraced_applyReset (v : Variant) (n : U32) (s : State) : PinsTraced (applyReset v n s) := by
  intro k hk
  obtain ⟨j, rfl⟩ := Nat.exists_eq_add_of_le' hk
  by_cases hj : j < v.npins <;> simp [readPin, pinAfter, hj]

/-- Settles O50: each transition keeps the levels and the trace in agreement. -/
theorem pinsFollowTrace : Obligations.PinsFollowTrace := by
  intro s t hinv h hstep
  replace h : PinsTraced s := h
  have hfetch (w rest) : PinsTraced (afterFetch w rest s) := h.concat (.accept w) (fun _ _ => rfl) rfl rfl
  change PinsTraced t
  cases step_took hstep with
  | reset v n => exact pinsTraced_applyReset v n s
  | command w rest i => exact (hfetch w rest).silentOrCompletes (by simp) (execState_silentOrCompletes i _)
  | illegal w rest => exact (hfetch w rest).silentOrCompletes rfl (.of_complete .illegal rfl)
  | delayIssue => exact h.concat (.delayReq s.stepDelay) (fun _ _ => rfl) (by simp) (by simp)
  | delayDone => exact h.concat .delayDone (fun _ _ => rfl) rfl rfl
  | drive _ _ h1 h2 =>
    exact (h.pinWrite _ h1 (h2.trans_eq hinv.pins_length.symm)).silentOrCompletes (by simp)
      (driveAnswered_silentOrCompletes _ _ _)
  | idleWait | delayTick | delayHang | advance => exact h.congr rfl rfl

/-! ### No transition reads a pin -/

theorem execState_withPins (i : Instr) (s : State) (ps : List PinLevel) :
    execState i { s with pins := ps } = { execState i s with pins := ps } := by
  cases i with
  | move n =>
    by_cases hm : moveMagnitude n = 0
    · rw [execState_move_of_eq_zero hm, execState_move_of_eq_zero hm]
      rfl
    · rw [execState_move_of_ne_zero hm, execState_move_of_ne_zero hm]
  | setSpeed | deenergize | seqStep | seqClear => rfl

theorem endOfStep_withPins (s : State) (ps : List PinLevel) :
    endOfStep { s with pins := ps } = { endOfStep s with pins := ps } := by
  simp only [endOfStep]
  split <;> rfl

theorem driveAnswered_withPins (k : Nat) (r : PinAnswer) (s : State) (ps : List PinLevel) :
    driveAnswered k r { s with pins := ps } = { driveAnswered k r s with pins := ps } := by
  cases r with
  | err e => rfl
  | ok =>
    simp only [driveAnswered, driveOk]
    split
    · rfl
    · split
      · exact endOfStep_withPins { s with pinCursor := 0 } ps
      · rfl

/-- The levels a pin write finds decide only the levels it leaves. -/
theorem pinWrite_withPins (k : Nat) (lvl : Level) (s : State) (ps : List PinLevel) :
    pinWrite k lvl { s with pins := ps } =
      { pinWrite k lvl s with pins := ps.set (k - 1) (levelAfter lvl (pinAnswerOf s)) } := by
  rw [pinWrite_eq, pinWrite_eq]
  rfl

/-- The transition of a state is, up to the levels left, the one of the state with other levels. -/
theorem Took.withPins {s t : State} (ht : Took s t) (ps : List PinLevel) :
    ∃ qs, Took { s with pins := ps } { t with pins := qs } := by
  cases ht with
  | reset v n h => exact ⟨_, .reset v n h⟩
  | idleWait hr hp hc => exact ⟨ps, .idleWait hr hp hc⟩
  | command w rest i hr hp hc hd =>
    exact ⟨ps, execState_withPins i (afterFetch w rest s) ps ▸ .command w rest i hr hp hc hd⟩
  | illegal w rest why hr hp hc hd => exact ⟨ps, .illegal w rest why hr hp hc hd⟩
  | delayIssue hr hp =>
    have heq : Machine.delayIssue { s with pins := ps } = { Machine.delayIssue s with pins := ps } := by
      rw [delayIssue_eq, delayIssue_eq]
      rfl
    exact ⟨ps, heq ▸ .delayIssue hr hp⟩
  | delayDone hr hp hq hd => exact ⟨ps, .delayDone hr hp hq hd⟩
  | delayTick n hr hp hq hd => exact ⟨ps, .delayTick n hr hp hq hd⟩
  | delayHang hr hp hq hd => exact ⟨ps, .delayHang hr hp hq hd⟩
  | advance hr hp => exact ⟨ps, .advance hr hp⟩
  | drive hr hp h1 h2 =>
    have htook : Took { s with pins := ps } _ := .drive hr hp h1 h2
    rw [pinWrite_withPins, driveAnswered_withPins] at htook
    exact ⟨_, htook⟩

/-- Settles O51: the other state takes the same transition. -/
theorem pinsAreNeverRead : Obligations.PinsAreNeverRead := by
  intro s t ps hstep
  obtain ⟨qs, htook⟩ := (step_took hstep).withPins ps
  exact ⟨qs, step_of_took htook⟩

end Sys2Proof.Machine

/-! SUPPORT. Proofs about the ports and the memory of the block (20_memory.md): the bytes of a byte-wide transport, the
event trace, the block in a platform's address space, and the statements settled from them. -/

namespace Sys2Proof.Machine

/-! ### The bytes of a byte-wide transport (R49) -/

/-- The `m` low bytes of a value, least significant first. -/
def lowBytes {n : Nat} (m : Nat) (x : BitVec n) : List Byte := (List.range m).map fun k => x.extractLsb' (8 * k) 8

theorem wordBytes_eq (w : CmdWord) : wordBytes w = lowBytes 8 w := rfl

theorem registerBytes_eq (v : U32) : registerBytes v = lowBytes 4 v := rfl

theorem lowBytes_getD_toNat {n m k : Nat} (x : BitVec n) (hk : k < m) :
    ((lowBytes m x).getD k 0).toNat = x.toNat / 256 ^ k % 256 := by
  have hbyte : (lowBytes m x).getD k 0 = x.extractLsb' (8 * k) 8 := by simp [lowBytes, hk]
  rw [hbyte, BitVec.extractLsb'_toNat, Nat.shiftRight_eq_div_pow, Nat.pow_mul]

/-- A byte joins the bits that stand above it. -/
theorem extractLsb'_append_byte {n : Nat} (x : BitVec n) (start len : Nat) :
    x.extractLsb' (start + 8) len ++ x.extractLsb' start 8 = x.extractLsb' start (len + 8) := by
  simpa using BitVec.extractLsb'_append_extractLsb'_eq_extractLsb' (x := x) (start₁ := start) (len₁ := 8)
    (len₂ := len) rfl

/-- The eight bytes of a command word, put together as the reader of a transport does. -/
theorem wordOfBytes_eq (w : CmdWord) :
    w.extractLsb' 56 8 ++ w.extractLsb' 48 8 ++ w.extractLsb' 40 8 ++ w.extractLsb' 32 8 ++ w.extractLsb' 24 8 ++
      w.extractLsb' 16 8 ++ w.extractLsb' 8 8 ++ w.extractLsb' 0 8 = w := by
  simp only [extractLsb'_append_byte w 48, extractLsb'_append_byte w 40, extractLsb'_append_byte w 32,
    extractLsb'_append_byte w 24, extractLsb'_append_byte w 16, extractLsb'_append_byte w 8, extractLsb'_append_byte w 0,
    BitVec.extractLsb'_eq_self]

/-- A transport's reader decodes the word that the bytes carry, and leaves the bytes after it (R49, R74). -/
theorem decodeBytes_wordBytes_append (w : CmdWord) (rest : List Byte) :
    decodeBytes (wordBytes w ++ rest) = ((decode w).mapError .illegal).map (·, rest) := by
  simp only [wordBytes, List.cons_append, List.nil_append, decodeBytes, wordOfBytes_eq]
  cases decode w <;> rfl

/-- A register value is put together again from its four bytes, and the bytes after them are left (R49). -/
theorem registerOfBytes_registerBytes_append (v : U32) (rest : List Byte) :
    registerOfBytes (registerBytes v ++ rest) = some (v, rest) := by
  have hjoin : v.extractLsb' 24 8 ++ v.extractLsb' 16 8 ++ v.extractLsb' 8 8 ++ v.extractLsb' 0 8 = v := by
    simp only [extractLsb'_append_byte v 16, extractLsb'_append_byte v 8, extractLsb'_append_byte v 0,
      BitVec.extractLsb'_eq_self]
  simp only [registerBytes, List.cons_append, List.nil_append, registerOfBytes, hjoin]

/-- Settles O6: the bytes are the word's low bytes in order, and they are put together to the word again. -/
theorem transportIsLittleEndian : Obligations.TransportIsLittleEndian := by
  intro w rest
  refine ⟨fun k hk => ?_, fun i hi => ?_, fun why hwhy => ?_⟩
  · rw [wordBytes_eq, lowBytes_getD_toNat w hk]
  · rw [decodeBytes_wordBytes_append, hi]
    rfl
  · rw [decodeBytes_wordBytes_append, hwhy]
    rfl

/-- Settles O52: the same two facts about a register value (R40, R49). -/
theorem registerTransportIsLittleEndian : Obligations.RegisterTransportIsLittleEndian := by
  intro s reg rest
  refine ⟨rfl, fun k hk => ?_, registerOfBytes_registerBytes_append _ rest⟩
  rw [readRegBytes, registerBytes_eq, lowBytes_getD_toNat _ hk]

/-! ### The event trace (R58) -/

/-- `t` has the trace of `s` and at most `n` events after it. -/
def Appends (n : Nat) (s t : State) : Prop := ∃ evs, t.trace = s.trace ++ evs ∧ evs.length ≤ n

theorem Appends.of_eq {s t : State} (n : Nat) (h : t.trace = s.trace) : Appends n s t :=
  ⟨[], by simp [h], Nat.zero_le n⟩

theorem Appends.of_concat {s t : State} {e : Event} (n : Nat) (h : t.trace = s.trace ++ [e]) : Appends (n + 1) s t :=
  ⟨[e], h, by simp⟩

theorem Appends.trans {m n : Nat} {s t u : State} (hst : Appends m s t) (htu : Appends n t u) : Appends (m + n) s u := by
  obtain ⟨es, hes, hm⟩ := hst
  obtain ⟨fs, hfs, hn⟩ := htu
  exact ⟨es ++ fs, by rw [hfs, hes, List.append_assoc], by simpa using Nat.add_le_add hm hn⟩

/-- What follows a transition's own events is one event at most: the `Complete` (R37). -/
theorem SilentOrCompletes.appends {s t : State} (h : SilentOrCompletes s t) : Appends 1 s t := by
  obtain ⟨-, -, htr⟩ | ⟨c, u, hu, rfl⟩ := h
  · exact .of_eq 1 htr
  · exact .of_concat 0 (by rw [complete_trace, hu])

/-- Settles O49: a transition records one event of its own at most, and may then complete. -/
theorem traceOnlyGrows : Obligations.TraceOnlyGrows := by
  intro s t hstep
  have hfetch (w rest) : Appends 1 s (afterFetch w rest s) := .of_concat 0 rfl
  change Appends 2 s t
  cases step_took hstep with
  | reset v n => exact .of_concat 1 (applyReset_trace s v n)
  | command w rest i => exact (hfetch w rest).trans (execState_silentOrCompletes i _).appends
  | illegal w rest => exact (hfetch w rest).trans (SilentOrCompletes.of_complete .illegal rfl).appends
  | delayIssue => exact .of_concat 1 (delayIssue_trace s)
  | delayDone => exact .of_concat 1 rfl
  | drive =>
    have hwrite : Appends 1 s (pinWrite s.pinCursor (levelOf s.pattern s.pinCursor) s) :=
      .of_concat 0 (pinWrite_trace s _ _)
    exact hwrite.trans (driveAnswered_silentOrCompletes _ _ _).appends
  | idleWait | delayTick | delayHang | advance => exact .of_eq 2 rfl

/-! ### The block in a platform's address space (R63) -/

/-- A platform reads at an address exactly the register that stands there (R39, R63). -/
theorem platformRead_eq_some {m : PlatformMap} {a : Nat} {s : State} {v : U32} :
    platformRead m a s = some v ↔ ∃ reg, m a = some (.register reg) ∧ v = readReg s reg := by
  rcases hm : m a with _ | _ | reg | k <;> simp [platformRead, hm, eq_comm]

/-- A platform's write at an address is an offer at the command port, where that stands there (R63, R66). -/
theorem platformWrite_eq_some {m : PlatformMap} {a : Nat} {w : CmdWord} {s t : State} :
    platformWrite m a w s = some t ↔ m a = some .commandPort ∧ s.cmdPort = [] ∧ t = { s with cmdPort := [w] } := by
  rw [← offerWord_eq_some]
  rcases hm : m a with _ | _ | reg | k <;> simp [platformWrite, hm]

/-- A word offered to an IDLE block whose port is empty is accepted and run in the next step (R66). -/
theorem step_of_offered {s : State} {w : CmdWord} {i : Instr} (hc : s.cmdPort = []) (hr : s.resetIn = none)
    (hp : s.phase = .idle) (hd : decode w = .ok i) :
    step { s with cmdPort := [w] } = exec i { s with trace := s.trace ++ [.accept w] } := by
  have htaken : afterFetch w [] { s with cmdPort := [w] } = { s with trace := s.trace ++ [.accept w] } := by
    simp [afterFetch, emit, ← hc]
  rw [exec_eq, ← htaken]
  exact step_of_took (.command w [] i hr hp rfl hd)

/-- Settles O53: the two accesses case by case, and the step that takes the offered word. -/
theorem platformMapPlacesPorts : Obligations.PlatformMapPlacesPorts := by
  intro m a w s
  refine ⟨fun v => platformRead_eq_some, fun t => platformWrite_eq_some, fun t i hw hr hp hd => ?_⟩
  obtain ⟨-, hc, rfl⟩ := platformWrite_eq_some.mp hw
  exact step_of_offered hc hr hp hd

end Sys2Proof.Machine

/-! SUPPORT. Proofs about the command words (30_encoding.md): the fields of a word and what they decode to, the
assembler, the command port, and the statements settled from them. -/

namespace Sys2Proof

open Machine

/-! ### The fields of a word as numbers (R65) -/

theorem opcField_toNat (w : CmdWord) : (opcField w).toNat = w.toNat % 256 := by
  simp [opcField, BitVec.extractLsb'_toNat]

theorem rsvField_toNat (w : CmdWord) : (rsvField w).toNat = w.toNat / 256 % 2 ^ 24 := by
  simp [rsvField, BitVec.extractLsb'_toNat, Nat.shiftRight_eq_div_pow]

theorem operandField_toNat (w : CmdWord) : (operandField w).toNat = w.toNat / 2 ^ 32 := by
  have hw := w.isLt
  rw [operandField, BitVec.extractLsb'_toNat, Nat.shiftRight_eq_div_pow, Nat.mod_eq_of_lt (by omega)]

theorem opcField_eq_iff {w : CmdWord} {b : Byte} : opcField w = b ↔ w.toNat % 256 = b.toNat := by
  rw [BitVec.toNat_eq, opcField_toNat]

theorem rsvField_eq_zero_iff {w : CmdWord} : rsvField w = 0 ↔ w.toNat / 256 % 2 ^ 24 = 0 := by
  rw [BitVec.toNat_eq, rsvField_toNat]
  rfl

theorem operandField_eq_zero_iff {w : CmdWord} : operandField w = 0 ↔ w.toNat / 2 ^ 32 = 0 := by
  rw [BitVec.toNat_eq, operandField_toNat]
  rfl

/-- OPERAND's top bit is the word's (R65). -/
theorem operandField_msb (w : CmdWord) : (operandField w).msb = decide (2 ^ 63 ≤ w.toNat) := by
  rw [BitVec.msb_eq_decide, operandField_toNat, decide_eq_decide]
  omega

/-- A word is its three fields side by side (R65). -/
theorem fields_append (w : CmdWord) : operandField w ++ rsvField w ++ opcField w = w := by
  have hhigh : operandField w ++ rsvField w = w.extractLsb' 8 56 :=
    BitVec.extractLsb'_append_extractLsb'_eq_extractLsb' rfl
  rw [hhigh, opcField, extractLsb'_append_byte, BitVec.extractLsb'_eq_self]

/-! ### Encoding and decoding are inverse to each other (R77, R78) -/

/-- The encoder gives the one word with the command's fields (R77). -/
theorem encode_eq_iff {w : CmdWord} {i : Instr} :
    encode i = w ↔ rsvField w = 0 ∧ opcField w = i.opcode ∧ operandField w = i.operandBits := by
  constructor
  · rintro rfl
    simp
  · rintro ⟨hrsv, hopc, hop⟩
    rw [encode, ← hop, ← hrsv, ← hopc, fields_append]

/-- MOVE's operand field carries every i32 (R68, R75). -/
theorem signedOperand_ofInt {n : Int} (hn : (Instr.move n).wf = true) : signedOperand (BitVec.ofInt 32 n) = n := by
  simp only [Instr.wf, Bool.and_eq_true, decide_eq_true_eq] at hn
  rw [signedOperand_eq_toInt, BitVec.toInt_ofInt, Int.bmod_eq_of_le (by omega) (by omega)]

theorem ofInt_signedOperand (op : U32) : BitVec.ofInt 32 (signedOperand op) = op := by
  rw [signedOperand_eq_toInt, BitVec.ofInt_toInt]

theorem decode_encode {i : Instr} (hi : i.wf = true) : decode (encode i) = .ok i := by
  cases i with
  | setSpeed m | seqStep m =>
    have hm : m < 2 ^ 32 := by simpa [Instr.wf] using hi
    simpa [decode, Instr.opcode, Instr.operandBits] using Nat.mod_eq_of_lt hm
  | move n => simp [decode, Instr.opcode, Instr.operandBits, signedOperand_ofInt hi]
  | deenergize | seqClear => rfl

theorem encode_of_decode {w : CmdWord} {i : Instr} (h : decode w = .ok i) : encode i = w := by
  obtain ⟨hrsv, ⟨ho, rfl⟩ | ⟨ho, rfl⟩ | ⟨ho, hz, rfl⟩ | ⟨ho, rfl⟩ | ⟨ho, hz, rfl⟩⟩ := decode_ok_cases h
  · exact encode_eq_iff.mpr ⟨hrsv, ho, by simp [Instr.operandBits]⟩
  · exact encode_eq_iff.mpr ⟨hrsv, ho, (ofInt_signedOperand _).symm⟩
  · exact encode_eq_iff.mpr ⟨hrsv, ho, hz⟩
  · exact encode_eq_iff.mpr ⟨hrsv, ho, by simp [Instr.operandBits]⟩
  · exact encode_eq_iff.mpr ⟨hrsv, ho, hz⟩

/-- The words that decode to a command are the encodings of well-formed ones. -/
theorem decode_eq_ok_iff {w : CmdWord} {i : Instr} : decode w = .ok i ↔ i.wf = true ∧ encode i = w := by
  constructor
  · exact fun h => ⟨decode_wf h, encode_of_decode h⟩
  · rintro ⟨hi, rfl⟩
    exact decode_encode hi

/-- Settles O2. -/
theorem decodeEncodeRoundTrip : Obligations.DecodeEncodeRoundTrip := fun _ => decode_encode

/-- Settles O3. -/
theorem encodeDecodeRoundTrip : Obligations.EncodeDecodeRoundTrip := fun _ _ h => ⟨encode_of_decode h, decode_wf h⟩

/-- Settles O1: the decoder run on each word. -/
theorem workedEncodingsDecode : Obligations.WorkedEncodingsDecode := by
  unfold Obligations.WorkedEncodingsDecode
  decide

/-! ### The rows of the opcode table (R67, R70) -/

/-- A word selects a row whose mask is the low half exactly when its RSV is 0 and its OPC the row's (R70). -/
theorem and_lowHalf_eq_iff {w : CmdWord} {opc : Byte} :
    w &&& 0x00000000FFFFFFFF = opc.setWidth 64 ↔ rsvField w = 0 ∧ opcField w = opc := by
  have hopc := opc.isLt
  have hand : (w &&& 0x00000000FFFFFFFF).toNat = w.toNat % 2 ^ 32 := by
    rw [BitVec.toNat_and]
    exact Nat.and_two_pow_sub_one_eq_mod w.toNat 32
  have hrow : (opc.setWidth 64).toNat = opc.toNat := BitVec.toNat_setWidth_of_le (by decide)
  rw [BitVec.toNat_eq, hand, hrow, rsvField_eq_zero_iff, opcField_eq_iff]
  omega

/-- The row of a command without operand: its one word (R69, R70). -/
theorem decode_eq_ok_iff_and_allOnes {i : Instr} (hi : i.wf = true) (w : CmdWord) :
    decode w = .ok i ↔ w &&& 0xFFFFFFFFFFFFFFFF = encode i := by
  have hand : w &&& 0xFFFFFFFFFFFFFFFF = w := BitVec.and_allOnes
  rw [hand, decode_eq_ok_iff, eq_comm (a := w)]
  exact and_iff_right hi

theorem decode_eq_setSpeed_iff {w : CmdWord} {rpm : Nat} :
    decode w = .ok (.setSpeed rpm) ↔ rsvField w = 0 ∧ opcField w = 0x01 ∧ rpm = (operandField w).toNat := by
  constructor
  · intro h
    simpa using decode_ok_cases h
  · rintro ⟨hrsv, hopc, rfl⟩
    simp [decode, hrsv, hopc]

theorem decode_eq_move_iff {w : CmdWord} {n : Int} :
    decode w = .ok (.move n) ↔ rsvField w = 0 ∧ opcField w = 0x02 ∧ n = signedOperand (operandField w) := by
  constructor
  · intro h
    simpa using decode_ok_cases h
  · rintro ⟨hrsv, hopc, rfl⟩
    simp [decode, hrsv, hopc]

theorem decode_eq_seqStep_iff {w : CmdWord} {i : Nat} :
    decode w = .ok (.seqStep i) ↔ rsvField w = 0 ∧ opcField w = 0x04 ∧ i = (operandField w).toNat := by
  constructor
  · intro h
    simpa using decode_ok_cases h
  · rintro ⟨hrsv, hopc, rfl⟩
    simp [decode, hrsv, hopc]

/-- Settles O4: the masks of the rows with an operand leave OPERAND open, those of the other two rows fix the word. -/
theorem tableRowSelectsCommand : Obligations.TableRowSelectsCommand := by
  intro w
  refine ⟨?_, ?_, decode_eq_ok_iff_and_allOnes rfl w, ?_, decode_eq_ok_iff_and_allOnes rfl w⟩
  · simpa [decode_eq_setSpeed_iff] using (and_lowHalf_eq_iff (opc := 0x01)).symm
  · simpa [decode_eq_move_iff] using (and_lowHalf_eq_iff (opc := 0x02)).symm
  · simpa [decode_eq_seqStep_iff] using (and_lowHalf_eq_iff (opc := 0x04)).symm

/-! ### The operand (R68) -/

/-- MOVE's operand as a number of the word (R68). -/
theorem signedOperand_operandField (w : CmdWord) :
    signedOperand (operandField w) = (w.toNat / 2 ^ 32 : Nat) - (if 2 ^ 63 ≤ w.toNat then 2 ^ 32 else 0) := by
  rw [signedOperand, operandField_msb, operandField_toNat]
  simp only [decide_eq_true_eq]
  split
  · rfl
  · exact (Int.sub_zero _).symm

/-- Settles O5, command by command. -/
theorem operandAssembly : Obligations.OperandAssembly := by
  intro w rpm idx n
  refine ⟨fun h => ?_, fun h => ?_, fun h => ?_, ?_⟩
  · obtain ⟨-, -, hop⟩ := decode_eq_setSpeed_iff.mp h
    exact hop.trans (operandField_toNat w)
  · obtain ⟨-, -, hop⟩ := decode_eq_move_iff.mp h
    exact hop.trans (signedOperand_operandField w)
  · obtain ⟨-, -, hop⟩ := decode_eq_seqStep_iff.mp h
    exact hop.trans (operandField_toNat w)
  · rintro (h | h) <;> obtain ⟨-, -, hop⟩ := encode_eq_iff.mp (encode_of_decode h) <;>
      exact operandField_eq_zero_iff.mp hop

/-! ### The assembler (R75) -/

/-- The assembler gives a word exactly for the command that the word decodes to. -/
theorem assemble_eq_some_iff {i : Instr} {w : CmdWord} : assemble i = some w ↔ decode w = .ok i := by
  simp [assemble, decode_eq_ok_iff]

theorem assemble_eq_none_iff {i : Instr} : assemble i = none ↔ i.wf = false := by
  simp [assemble]

/-- Settles O8: the assembler refuses what is not well formed, which is what is out of range. -/
theorem assemblerKeepsOperandRange : Obligations.AssemblerKeepsOperandRange := by
  refine ⟨fun i w => assemble_eq_some_iff.mp, fun m => ?_, fun m => ?_, fun n => ?_, rfl, rfl⟩
  · simp [assemble_eq_none_iff, Instr.wf]
  · simp [assemble_eq_none_iff, Instr.wf]
  · rw [assemble_eq_none_iff, Instr.wf, Bool.and_eq_false_iff, decide_eq_false_iff_not, decide_eq_false_iff_not]
    omega

/-! ### Illegal words (R69, R71, R72) -/

/-- The illegal words (R72). -/
theorem exists_decode_error_iff {w : CmdWord} :
    (∃ why, decode w = .error why) ↔
      opcField w ∉ [0x01, 0x02, 0x03, 0x04, 0x05] ∨ rsvField w ≠ 0 ∨
        (opcField w = 0x03 ∨ opcField w = 0x05) ∧ operandField w ≠ 0 := by
  constructor
  · rintro ⟨why, hd⟩
    by_contra! hlegal
    obtain ⟨hopc, hrsv, hop⟩ := hlegal
    simp only [List.mem_cons, List.not_mem_nil, or_false] at hopc
    obtain ho | ho | ho | ho | ho := hopc <;> simp [decode, hrsv, ho, hop] at hd
  · intro hillegal
    cases hd : decode w with
    | error why => exact ⟨why, rfl⟩
    | ok i =>
      obtain ⟨hrsv, ⟨ho, -⟩ | ⟨ho, -⟩ | ⟨ho, hz, -⟩ | ⟨ho, -⟩ | ⟨ho, hz, -⟩⟩ := decode_ok_cases hd <;>
        simp [*] at hillegal

/-- The illegal words, told from the word as a number (R65, R72). -/
theorem exists_decode_error_iff_toNat {w : CmdWord} :
    (∃ why, decode w = .error why) ↔
      w.toNat % 256 ∉ [0x01, 0x02, 0x03, 0x04, 0x05] ∨ w.toNat / 256 % 2 ^ 24 ≠ 0 ∨
        (w.toNat % 256 = 0x03 ∨ w.toNat % 256 = 0x05) ∧ w.toNat / 2 ^ 32 ≠ 0 := by
  simp only [exists_decode_error_iff, List.mem_cons, List.not_mem_nil, opcField_eq_iff, ne_eq, rsvField_eq_zero_iff,
    operandField_eq_zero_iff]
  rfl

end Sys2Proof

namespace Sys2Proof.Machine

/-- In a legal IDLE block a completion finds the FSM's fields as it leaves them: it reports, and nothing else
changes (R37). -/
theorem complete_eq_of_idle {s : State} (h : s.Inv) (hp : s.phase = .idle) (r : Completion) :
    complete r s =
      { s with result := r.code, lastErr := r.err, trace := s.trace ++ [.complete r] } := by
  have hop : s.curOp = .none := h.op_none_iff.mpr hp
  have hbusy : s.busy = false := by simpa [hp] using h.busy_iff
  have hcur : s.pinCursor = 0 := h.cursor_zero (by simp [hp])
  have hpend : s.delayPending = false := h.delayPending_eq_false (by simp [hp])
  simp [complete, emit, hp, hop, hbusy, hcur, hpend]

/-- A ready block takes an illegal word and completes it at once (R72, R123). -/
theorem step_of_illegal {s : State} {w : CmdWord} {rest : List CmdWord} {why : Illegal} (h : Ready s)
    (hc : s.cmdPort = w :: rest) (hd : decode w = .error why) :
    step s = .next { s with cmdPort := rest, result := .illegal, lastErr := none,
                            trace := s.trace ++ [.accept w, .complete .illegal] } := by
  obtain ⟨hinv, hr, hp⟩ := h
  rw [step_of_took (.illegal w rest why hr hp hc hd), raiseIllegal,
    complete_eq_of_idle (afterFetch_inv hinv w rest) hp]
  simp [afterFetch, emit, Completion.code, Completion.err]

/-- Settles O7: the three causes, and the one step that completes. -/
theorem illegalWordCompletesAtOnce : Obligations.IllegalWordCompletesAtOnce := by
  refine fun w => ⟨exists_decode_error_iff_toNat, ?_⟩
  rintro s rest hready hc ⟨why, hd⟩
  exact step_of_illegal hready hc hd

/-! ### The command port (R66) -/

/-- An IDLE block runs the command at its port (R66, R78). -/
theorem step_of_command {s : State} {w : CmdWord} {rest : List CmdWord} {i : Instr} (hr : s.resetIn = none)
    (hp : s.phase = .idle) (hc : s.cmdPort = w :: rest) (hd : decode w = .ok i) :
    step s = exec i { s with cmdPort := rest, trace := s.trace ++ [.accept w] } :=
  (step_of_took (.command w rest i hr hp hc hd)).trans (exec_eq i (afterFetch w rest s)).symm

/-- Settles O9. -/
theorem stepRunsDecodedCommand : Obligations.StepRunsDecodedCommand := fun _ _ _ _ => step_of_command

/-- What the transport's reader reads from a table word is what the word decodes to (R49). -/
theorem decodeTableWord_eq_some_iff {nbits w : Nat} {i : Instr} :
    decodeTableWord nbits w = some i ↔ decode (tableWord nbits w) = .ok i := by
  have hread := decodeBytes_wordBytes_append (tableWord nbits w) []
  rw [List.append_nil] at hread
  rw [decodeTableWord, hread]
  cases decode (tableWord nbits w) <;> simp [Except.map, Except.mapError]

/-- Settles O10: the placed word stands at the port of an IDLE block that no reset holds. -/
theorem placedWordRunsNext : Obligations.PlacedWordRunsNext := by
  intro s nbits w i hd
  exact step_of_command (s := s.withFetchWord nbits w) rfl rfl rfl (decodeTableWord_eq_some_iff.mp hd)

/-- Settles O12. -/
theorem idleWaitsForWord : Obligations.IdleWaitsForWord := fun _ hr hp hc => step_of_took (.idleWait hr hp hc)

/-- From `s` to `t` the words at the port are held, and no event is an Accept (R66). -/
def HoldsPort (s t : State) : Prop :=
  t.cmdPort = s.cmdPort ∧ ∃ evs, t.trace = s.trace ++ evs ∧ ∀ e ∈ evs, e.isAccept = false

namespace HoldsPort

variable {s t u : State}

theorem of_eq (hc : t.cmdPort = s.cmdPort) (htr : t.trace = s.trace) : HoldsPort s t :=
  ⟨hc, [], by simp [htr], by simp⟩

theorem of_concat {e : Event} (he : e.isAccept = false) (hc : t.cmdPort = s.cmdPort)
    (htr : t.trace = s.trace ++ [e]) : HoldsPort s t :=
  ⟨hc, [e], htr, by simpa using he⟩

theorem trans (hst : HoldsPort s t) (htu : HoldsPort t u) : HoldsPort s u := by
  obtain ⟨hc, es, hes, hea⟩ := hst
  obtain ⟨hc', fs, hfs, hfa⟩ := htu
  refine ⟨hc'.trans hc, es ++ fs, by rw [hfs, hes, List.append_assoc], fun e he => ?_⟩
  exact (List.mem_append.mp he).elim (hea e) (hfa e)

end HoldsPort

theorem driveAnswered_holdsPort (k : Nat) (r : PinAnswer) (s : State) : HoldsPort s (driveAnswered k r s) := by
  obtain ⟨-, -, h⟩ | ⟨-, -, -, h⟩ | ⟨-, -, -, -, h⟩ | ⟨-, -, -, -, h⟩ | ⟨e, -, h⟩ := driveAnswered_cases k r s <;>
    rw [h]
  · exact .of_eq rfl rfl
  · exact .of_concat (e := .complete .ok) rfl rfl rfl
  · exact .of_concat (e := .complete .ok) rfl rfl rfl
  · exact .of_eq rfl rfl
  · exact .of_concat (e := .complete (.pinFail e)) rfl rfl rfl

/-- Settles O11: only the accepting transitions, which are those of IDLE, take a word. -/
theorem wordHeldWhileBusy : Obligations.WordHeldWhileBusy := by
  intro s t hr hbusy hstep
  change HoldsPort s t
  cases step_took hstep with
  | reset v n h => simp [hr] at h
  | idleWait _ hp | command _ _ _ _ hp | illegal _ _ _ _ hp => exact absurd hp hbusy
  | delayIssue => exact .of_concat (e := .delayReq s.stepDelay) rfl (by simp [delayIssue_eq]) (delayIssue_trace s)
  | delayDone => exact .of_concat (e := .delayDone) rfl rfl rfl
  | drive =>
    have hwrite : HoldsPort s (pinWrite s.pinCursor (levelOf s.pattern s.pinCursor) s) :=
      .of_concat (e := .pinWrite ..) rfl (pinWrite_cmdPort s _ _) (pinWrite_trace s _ _)
    exact hwrite.trans (driveAnswered_holdsPort _ _ _)
  | delayTick | delayHang | advance => exact .of_eq rfl rfl

end Sys2Proof.Machine

/-! SUPPORT. Proofs about the coil-sequencer (40_sequencer.md): the pattern of a row, what DRIVE does with each answer,
a row of pin writes as a whole, and the statements settled from them. -/

namespace Sys2Proof.Machine

/-! ### The pattern of a row (R81 to R84) -/

/-- The pattern of a step index has, pin by pin, the levels of its row of the variant's table. -/
theorem map_levelOf_patternOf (v : Variant) (i : Nat) :
    (pinOrder v.npins).map (levelOf (patternOf v i)) = (lutTable v).toList.getD (i % v.cycle) [] := by
  have hrow : ∀ (v : Variant) (r : Fin v.cycle),
      (pinOrder v.npins).map (levelOf (lutRead v r)) = (lutTable v).toList.getD r [] := by
    intro v
    cases v <;> decide
  exact hrow v (rowOf v i)

/-- Settles O17: the loaded pattern unpacks to the row of the table. -/
theorem seqStepLoadsTableRow : Obligations.SeqStepLoadsTableRow := by
  intro i s
  refine ⟨startDrive .seqStep (patternOf s.variant i) s, exec_eq (.seqStep i) s, rfl, fun hv => ?_, fun hv => ?_,
    fun hv => ?_⟩ <;> rw [startDrive_pattern, hv]
  · exact map_levelOf_patternOf .p2 i
  · exact map_levelOf_patternOf .p4 i
  · exact map_levelOf_patternOf .p5 i

/-! ### What DRIVE does with an answer (R91 to R93, R108) -/

theorem driveOk_of_lt {k : Nat} {s : State} (hk : k < s.variant.npins) : driveOk k s = { s with pinCursor := k + 1 } :=
  if_pos hk

/-- After the last pin a sequencer command completes OK (R92). -/
theorem driveOk_of_last {k : Nat} {s : State} (hk : s.variant.npins ≤ k) (hop : s.curOp ≠ .move) :
    driveOk k s = complete .ok s :=
  (if_neg hk.not_gt).trans (if_neg hop)

/-- The last pin of the last physical step of a MOVE (R92, R108). -/
theorem driveOk_of_last_move {k : Nat} {s : State} (hk : s.variant.npins ≤ k) (hop : s.curOp = .move)
    (hrem : s.remaining = 1) : driveOk k s = complete .ok { s with remaining := 0 } := by
  simp [driveOk, hk.not_gt, hop, endOfStep, hrem, complete]

/-- The last pin of any other physical step of a MOVE (R92, R108). -/
theorem driveOk_of_last_move_more {k : Nat} {s : State} (hk : s.variant.npins ≤ k) (hop : s.curOp = .move)
    (hrem : s.remaining ≠ 1) :
    driveOk k s = { s with pinCursor := 0, remaining := s.remaining - 1, phase := .delayIssue } := by
  have hne : s.remaining - 1 ≠ 0 := sub_ne_zero.mpr hrem
  simp only [driveOk, hk.not_gt, hop, endOfStep, hne, if_true, if_false]

@[simp] theorem driveAnswered_gpioAnswers (k : Nat) (r : PinAnswer) (s : State) :
    (driveAnswered k r s).gpioAnswers = s.gpioAnswers := by
  obtain ⟨-, -, h⟩ | ⟨-, -, -, h⟩ | ⟨-, -, -, -, h⟩ | ⟨-, -, -, -, h⟩ | ⟨e, -, h⟩ := driveAnswered_cases k r s <;>
    simp [h]

/-- Acting on an answer writes no further pin (R92, R93). -/
theorem SilentOrCompletes.no_pinWrite {s t : State} (h : SilentOrCompletes s t) :
    ∃ evs, t.trace = s.trace ++ evs ∧ ∀ e ∈ evs, e.isPinWrite = false := by
  obtain ⟨-, -, htr⟩ | ⟨c, u, hu, rfl⟩ := h
  · exact ⟨[], by simp [htr], by simp⟩
  · exact ⟨[.complete c], by rw [complete_trace, hu], by simp [Event.isPinWrite]⟩

/-- The pin level of a pattern's bit (R15, R91). -/
theorem ofLevel_levelOf (p : BitVec 5) (k : Nat) :
    PinLevel.ofLevel (levelOf p k) = if p.getLsbD (k - 1) then .high else .low :=
  apply_ite PinLevel.ofLevel _ _ _

@[simp] theorem Completion.code_ok : Completion.ok.code = .ok := rfl

@[simp] theorem Completion.err_ok : Completion.ok.err = none := rfl

@[simp] theorem Completion.code_pinFail (e : PinError) : (Completion.pinFail e).code = .pinFail := rfl

@[simp] theorem Completion.err_pinFail (e : PinError) : (Completion.pinFail e).err = some e := rfl

/-- The end of a command as one record (R37). -/
theorem complete_eq (r : Completion) (s : State) :
    complete r s =
      { s with result := r.code, lastErr := r.err, phase := .idle, curOp := .none, busy := false, pinCursor := 0,
               delayPending := false, trace := s.trace ++ [.complete r] } := rfl

section
variable {s : State} (h : s.Inv) (hr : s.resetIn = none) (hp : s.phase = .drive)
include h hr hp

/-- In a legal block DRIVE is enabled, and acts on the answer to the write under PIN_CURSOR (R91). -/
theorem step_drive :
    step s = .next (driveAnswered s.pinCursor (pinAnswerOf s)
      (pinWrite s.pinCursor (levelOf s.pattern s.pinCursor) s)) :=
  step_of_took (.drive hr hp (h.cursor_range hp).1 (h.cursor_range hp).2)

theorem step_drive_ok (hok : pinAnswerOf s = .ok) :
    step s = .next (driveOk s.pinCursor (pinWrite s.pinCursor (levelOf s.pattern s.pinCursor) s)) := by
  rw [step_drive h hr hp, hok]
  rfl

theorem step_drive_err {e : PinError} (herr : pinAnswerOf s = .err e) :
    step s = .next (complete (.pinFail e) (pinWrite s.pinCursor (levelOf s.pattern s.pinCursor) s)) := by
  rw [step_drive h hr hp, herr]
  rfl

end

/-- Settles O21: what follows the write of the pin under PIN_CURSOR touches no pin. -/
theorem driveWritesOnePin : Obligations.DriveWritesOnePin := by
  intro s h hr hp
  have hone := (h.cursor_range hp).1
  have hlen := (h.cursor_range hp).2.trans_eq h.pins_length.symm
  set w := pinWrite s.pinCursor (levelOf s.pattern s.pinCursor) s with hw
  obtain ⟨evs, htr, hevs⟩ := (driveAnswered_silentOrCompletes s.pinCursor (pinAnswerOf s) w).no_pinWrite
  have hpins (k : Nat) : readPin (driveAnswered s.pinCursor (pinAnswerOf s) w) k = readPin w k :=
    readPin_congr (by simp) k
  have hsame := (hpins s.pinCursor).trans (readPin_pinWrite_same s (levelOf s.pattern s.pinCursor) hone hlen)
  refine ⟨_, pinAnswerOf s, evs, step_drive h hr hp, ?_, hevs, fun a rest ha => ⟨pinAnswerOf_scripted ha, ?_⟩,
    fun hok => ?_, fun e herr => ?_, fun k hk => (hpins k).trans (readPin_pinWrite_other s _ hone hk)⟩
  · rw [htr, hw, pinWrite_trace, List.append_assoc]
    rfl
  · simp [ha]
  · rw [hsame, hok, ← ofLevel_levelOf]
    rfl
  · rw [hsame, herr]
    rfl

/-- Settles O22: the four ways on from an Ok. -/
theorem driveOkGoesOn : Obligations.DriveOkGoesOn := by
  intro s h hr hp hok
  have hpend : s.delayPending = false := h.delayPending_eq_false (by simp [hp])
  refine ⟨_, step_drive_ok h hr hp hok, fun hlt => ?_, fun hlast hop => ?_, fun hlast hop hone => ?_,
    fun hlast hop hne => ?_⟩
  · rw [driveOk_of_lt (by simpa using hlt), pinWrite_eq, hok]
    rfl
  · rw [driveOk_of_last (by simpa using hlast.ge) (by simpa using hop), pinWrite_eq, hok]
    simp [complete_eq, writeEvent, levelAfter, hpend]
  · rw [driveOk_of_last_move (by simpa using hlast.ge) (by simpa using hop) (by simpa using hone), pinWrite_eq, hok]
    simp [complete_eq, writeEvent, levelAfter, hpend]
  · rw [driveOk_of_last_move_more (by simpa using hlast.ge) (by simpa using hop) (by simpa using hne), pinWrite_eq, hok]
    rfl

/-- Settles O23: the failing write, and then the completion. -/
theorem driveErrEndsCommand : Obligations.DriveErrEndsCommand := by
  intro s e h hr hp herr
  refine ⟨_, step_drive_err h hr hp herr, ?_⟩
  rw [pinWrite_eq, herr]
  simp [complete_eq, writeEvent, levelAfter]

/-! ### A row of pin writes (R91 to R94) -/

/-- The levels of p1 to pk in a pattern. -/
def rowLevels (p : BitVec 5) (k : Nat) : List PinLevel := (pinOrder k).map fun j => PinLevel.ofLevel (levelOf p j)

theorem pinOrder_succ (k : Nat) : pinOrder (k + 1) = pinOrder k ++ [k + 1] := by
  simp [pinOrder, List.range_succ]

theorem mem_pinOrder {n p : Nat} : p ∈ pinOrder n ↔ 1 ≤ p ∧ p ≤ n := by
  simp only [pinOrder, List.mem_map, List.mem_range]
  exact ⟨by rintro ⟨j, hj, rfl⟩; omega, fun ⟨h1, hn⟩ => ⟨p - 1, by omega, by omega⟩⟩

@[simp] theorem rowLevels_length (p : BitVec 5) (k : Nat) : (rowLevels p k).length = k := by
  simp [rowLevels, pinOrder]

theorem rowLevels_succ (p : BitVec 5) (k : Nat) :
    rowLevels p (k + 1) = rowLevels p k ++ [PinLevel.ofLevel (levelOf p (k + 1))] := by
  simp [rowLevels, pinOrder_succ]

/-- DRIVE of the row begun in `s`, after the pins p1 to pk have been written and each write answered Ok. -/
def rowWritten (k : Nat) (s : State) : State :=
  { s with pinCursor := k + 1
           pins := rowLevels s.pattern k ++ s.pins.drop k
           trace := s.trace ++ (pinOrder k).map (writeEvent s.pattern .ok)
           gpioAnswers := s.gpioAnswers.drop k
           pinDraws := s.pinDraws + (k - s.gpioAnswers.length) }

@[simp] theorem rowWritten_pinCursor (k : Nat) (s : State) : (rowWritten k s).pinCursor = k + 1 := rfl

@[simp] theorem rowWritten_pins (k : Nat) (s : State) :
    (rowWritten k s).pins = rowLevels s.pattern k ++ s.pins.drop k := rfl

theorem rowWritten_pins_length {k : Nat} {s : State} (hk : k ≤ s.pins.length) :
    (rowWritten k s).pins.length = s.pins.length := by
  simp [hk]

@[simp] theorem rowWritten_trace (k : Nat) (s : State) :
    (rowWritten k s).trace = s.trace ++ (pinOrder k).map (writeEvent s.pattern .ok) := rfl

@[simp] theorem rowWritten_frame (k : Nat) (s : State) :
    (rowWritten k s).variant = s.variant ∧ (rowWritten k s).numSteps = s.numSteps ∧
    (rowWritten k s).stepIndex = s.stepIndex ∧ (rowWritten k s).dir = s.dir ∧
    (rowWritten k s).stepDelay = s.stepDelay ∧ (rowWritten k s).remaining = s.remaining ∧
    (rowWritten k s).phase = s.phase ∧ (rowWritten k s).curOp = s.curOp ∧ (rowWritten k s).pattern = s.pattern ∧
    (rowWritten k s).resetIn = s.resetIn ∧ (rowWritten k s).cmdPort = s.cmdPort ∧
    (rowWritten k s).delayAnswers = s.delayAnswers :=
  ⟨rfl, rfl, rfl, rfl, rfl, rfl, rfl, rfl, rfl, rfl, rfl, rfl⟩

theorem rowWritten_zero {s : State} (hc : s.pinCursor = 1) : rowWritten 0 s = s := by
  simp [rowWritten, rowLevels, pinOrder, ← hc]

/-- One more pin of the row is written and answered Ok. -/
theorem pinWrite_rowWritten {k : Nat} {s : State} (hk : k < s.pins.length) (hok : pinAnswerOf (rowWritten k s) = .ok) :
    { pinWrite (k + 1) (levelOf s.pattern (k + 1)) (rowWritten k s) with pinCursor := k + 2 } =
      rowWritten (k + 1) s := by
  have hpins : (rowLevels s.pattern k ++ s.pins.drop k).set k (PinLevel.ofLevel (levelOf s.pattern (k + 1))) =
      rowLevels s.pattern (k + 1) ++ s.pins.drop (k + 1) := by
    rw [rowLevels_succ, List.drop_eq_getElem_cons hk, List.set_append_right _ _ (by simp), rowLevels_length,
      Nat.sub_self, List.set_cons_zero, List.append_assoc, List.singleton_append]
  have hdraws : (if s.gpioAnswers.length ≤ k then s.pinDraws + (k - s.gpioAnswers.length) + 1
      else s.pinDraws + (k - s.gpioAnswers.length)) = s.pinDraws + (k + 1 - s.gpioAnswers.length) := by
    split <;> omega
  rw [pinWrite_eq, hok]
  simp [rowWritten, levelAfter, writeEvent, pinOrder_succ, hpins, hdraws]

theorem readPin_rowWritten_of_le {k p : Nat} (s : State) (h1 : 1 ≤ p) (hp : p ≤ k) :
    readPin (rowWritten k s) p = PinLevel.ofLevel (levelOf s.pattern p) := by
  obtain ⟨j, rfl⟩ := Nat.exists_eq_add_of_le' h1
  have hj : j < k := hp
  simp [readPin, rowWritten, rowLevels, pinOrder, hj, List.getElem?_append_left]

theorem readPin_rowWritten_of_gt {k p : Nat} {s : State} (hk : k < p) :
    readPin (rowWritten k s) p = readPin s p := by
  obtain ⟨j, rfl⟩ := Nat.exists_eq_add_of_le' (Nat.one_le_of_lt hk)
  have hj : k ≤ j := Nat.le_of_lt_succ hk
  simp [readPin, rowWritten, hj, List.getElem?_append_right]

@[simp] theorem readPin_complete (r : Completion) (s : State) (p : Nat) : readPin (complete r s) p = readPin s p := rfl

/-! ### The end of a command (R155) -/

theorem run_of_step (M : Host.Core) {s s' : M.State} (hstep : M.step s = .next s') (k : Nat) :
    M.run (k + 1) s = M.run k s' := by
  rw [Host.Core.run, hstep]

/-- An IDLE state is itself the end. -/
theorem EndsIn.of_idle {s t : State} {k : Nat} (h : EndsIn k s t) (hp : s.phase = .idle) : k = 0 ∧ t = s := by
  obtain ⟨ht, -, hbusy⟩ := h
  cases k with
  | zero => cases ht; exact ⟨rfl, rfl⟩
  | succ k =>
    obtain ⟨u, hu, hne⟩ := hbusy 0 k.succ_pos
    cases hu
    exact absurd hp hne

/-- What ends in no step has ended. -/
theorem EndsIn.idle_of_zero {s t : State} (h : EndsIn 0 s t) : s.phase = .idle := by
  obtain ⟨ht, hidle, -⟩ := h
  cases ht
  exact hidle

/-- A step brings the end of the command one step closer. -/
theorem EndsIn.after_step {s s' t : State} {k : Nat} (h : EndsIn (k + 1) s t) (hstep : step s = .next s') :
    EndsIn k s' t := by
  obtain ⟨ht, hidle, hbusy⟩ := h
  have hrun := run_of_step core hstep
  exact ⟨hrun k ▸ ht, hidle, fun j hj => hrun j ▸ hbusy (j + 1) (Nat.succ_lt_succ hj)⟩

/-- How the row of a sequencer command begun in `s` ends, and after how many pin writes (R94). -/
inductive RowEnds (s : State) : Nat → State → Prop where
  | ok : RowEnds s s.variant.npins (complete .ok (rowWritten s.variant.npins s))
  | failed (j : Nat) (e : PinError) (hj : j < s.variant.npins) (herr : pinAnswerOf (rowWritten j s) = .err e) :
      RowEnds s (j + 1) (complete (.pinFail e) (pinWrite (j + 1) (levelOf s.pattern (j + 1)) (rowWritten j s)))

section
variable {s : State} (hlen : s.pins.length = s.variant.npins) (hr : s.resetIn = none) (hp : s.phase = .drive)
include hr hp

/-- One transition of a row (R91). -/
theorem step_rowWritten {k : Nat} (hk : k < s.variant.npins) :
    step (rowWritten k s) = .next (driveAnswered (k + 1) (pinAnswerOf (rowWritten k s))
      (pinWrite (k + 1) (levelOf s.pattern (k + 1)) (rowWritten k s))) :=
  step_of_took (.drive hr hp (Nat.le_add_left 1 k) hk)

include hlen

theorem step_rowWritten_of_lt {k : Nat} (hk : k + 1 < s.variant.npins) (hok : pinAnswerOf (rowWritten k s) = .ok) :
    step (rowWritten k s) = .next (rowWritten (k + 1) s) := by
  rw [step_rowWritten hr hp (by omega), ← pinWrite_rowWritten (by omega) hok, hok, driveAnswered, driveOk_of_lt]
  simpa using hk

theorem step_rowWritten_of_last {k : Nat} (hk : k + 1 = s.variant.npins) (hop : s.curOp ≠ .move)
    (hok : pinAnswerOf (rowWritten k s) = .ok) :
    step (rowWritten k s) = .next (complete .ok (rowWritten (k + 1) s)) := by
  rw [step_rowWritten hr hp (by omega), ← pinWrite_rowWritten (by omega) hok, hok, driveAnswered, driveOk_of_last]
  · rfl
  · simpa using hk.ge
  · simpa using hop

/-- A command that ends from within a row ends as R94 says, the writes of the row counted from p1. -/
theorem EndsIn.rowEnds (hop : s.curOp ≠ .move) {t : State} {k j : Nat} (hj : j < s.variant.npins)
    (h : EndsIn k (rowWritten j s) t) : RowEnds s (j + k) t := by
  have hbusy (i : Nat) : (rowWritten i s).phase ≠ .idle := by simp [hp]
  induction k generalizing j with
  | zero => exact absurd h.idle_of_zero (hbusy j)
  | succ k ih =>
    rw [show j + (k + 1) = j + 1 + k by omega]
    cases hans : pinAnswerOf (rowWritten j s) with
    | err e =>
      have hstep := step_rowWritten hr hp hj
      rw [hans] at hstep
      obtain ⟨rfl, rfl⟩ := (h.after_step hstep).of_idle rfl
      exact .failed j e hj hans
    | ok =>
      by_cases hlast : j + 1 = s.variant.npins
      · have hstep := step_rowWritten_of_last hlen hr hp hlast hop hans
        obtain ⟨rfl, rfl⟩ := (h.after_step hstep).of_idle rfl
        exact hlast ▸ .ok
      · have hlt : j + 1 < s.variant.npins := by omega
        exact ih hlt (h.after_step (step_rowWritten_of_lt hlen hr hp hlt hans))

end

/-! ### DEENERGIZE, SEQ_STEP and SEQ_CLEAR -/

theorem exec_of_drivesOnce {i : Instr} (hi : drivesOnce i = true) (s : State) :
    ∃ op, op ≠ .move ∧ exec i s = .next (startDrive op (patternWritten s.variant i) s) := by
  cases i with
  | deenergize => exact ⟨.deenergize, by decide, rfl⟩
  | seqStep i => exact ⟨.seqStep, by decide, rfl⟩
  | seqClear => exact ⟨.seqClear, by decide, rfl⟩
  | setSpeed | move => simp [drivesOnce] at hi

theorem npins_pos (v : Variant) : 0 < v.npins := by cases v <;> decide

/-- Once accepted, a sequencer command is one row of its pattern. -/
theorem EndsIn.rowEnds_of_exec {i : Instr} {s s1 t : State} {k : Nat} (h : EndsIn k s1 t) (hs : Ready s)
    (hi : drivesOnce i = true) (he : exec i s = .next s1) :
    ∃ op, RowEnds (startDrive op (patternWritten s.variant i) s) k t := by
  obtain ⟨hinv, hr, -⟩ := hs
  obtain ⟨op, hop, heq⟩ := exec_of_drivesOnce hi s
  obtain rfl : startDrive op (patternWritten s.variant i) s = s1 := by simpa [heq] using he
  rw [← rowWritten_zero (startDrive_pinCursor s op _)] at h
  exact ⟨op, by simpa using h.rowEnds (s := startDrive op _ s) hinv.pins_length hr rfl hop (npins_pos _)⟩

/-- Settles O25: the two ways a row ends. -/
theorem sequencerCommandOutcome : Obligations.SequencerCommandOutcome := by
  intro i s s1 t k hs hi he hend
  have ⟨hinv, _, _⟩ := hs
  obtain ⟨op, hrow⟩ := hend.rowEnds_of_exec hs hi he
  cases hrow with
  | ok =>
    refine .inl ⟨rfl, rfl, rfl, fun p hp => ?_⟩
    obtain ⟨h1, hn⟩ := mem_pinOrder.mp hp
    exact readPin_rowWritten_of_le _ h1 hn
  | failed j e hj herr =>
    have hlen : j < (startDrive op (patternWritten s.variant i) s).pins.length := hj.trans_eq hinv.pins_length.symm
    have hpin := hlen.trans_eq (rowWritten_pins_length hlen.le).symm
    refine .inr ⟨e, rfl, rfl, Nat.le_add_left 1 j, hj, ?_, fun p h1 hp => ?_, ?_, fun p hp => ?_⟩
    · simp [herr, writeEvent]
    · rw [readPin_complete, readPin_pinWrite_other _ _ (by omega) (by omega),
        readPin_rowWritten_of_le _ h1 (by omega)]
      rfl
    · rw [readPin_complete, readPin_pinWrite_same _ _ (by omega) hpin, herr]
      rfl
    · rw [readPin_complete, readPin_pinWrite_other _ _ (by omega) (by omega), readPin_rowWritten_of_gt (by omega)]
      rfl

/-- A row leaves the controller's registers, the configuration, the words at the port and the delay device's answers
alone (R86, R118, R150). -/
theorem RowEnds.frame {s t : State} {k : Nat} (h : RowEnds s k t) :
    t.stepIndex = s.stepIndex ∧ t.dir = s.dir ∧ t.stepDelay = s.stepDelay ∧ t.remaining = s.remaining ∧
    t.variant = s.variant ∧ t.numSteps = s.numSteps ∧ t.cmdPort = s.cmdPort ∧ t.delayAnswers = s.delayAnswers := by
  cases h with
  | ok => simp
  | failed => simp

/-- The events of a row are pin writes and the completion. -/
theorem RowEnds.no_delayReq {s t : State} {k : Nat} (h : RowEnds s k t) :
    ∃ evs, t.trace = s.trace ++ evs ∧ ∀ e ∈ evs, e.isDelayReq = false := by
  have hwrites (n : Nat) : ∀ e ∈ (pinOrder n).map (writeEvent s.pattern .ok), e.isDelayReq = false := by
    simp [writeEvent, Event.isDelayReq]
  cases h with
  | ok =>
    refine ⟨(pinOrder s.variant.npins).map (writeEvent s.pattern .ok) ++ [.complete .ok], by simp, ?_⟩
    exact List.forall_mem_append.mpr ⟨hwrites _, by simp [Event.isDelayReq]⟩
  | failed j e _ herr =>
    refine ⟨(pinOrder j).map (writeEvent s.pattern .ok) ++
        [writeEvent s.pattern (.err e) (j + 1), .complete (.pinFail e)], by simp [herr, writeEvent], ?_⟩
    exact List.forall_mem_append.mpr ⟨hwrites _, by simp [writeEvent, Event.isDelayReq]⟩

/-- After an Ok to every pin no level from before the row is left. -/
theorem RowEnds.pins_of_ok {s t : State} {k : Nat} (h : RowEnds s k t) (hlen : s.pins.length = s.variant.npins)
    (hok : t.result = .ok) : t.pins = rowLevels s.pattern s.variant.npins := by
  cases h with
  | ok => simp [← hlen]
  | failed => cases hok

/-- The all-LOW pattern drives every pin LOW (R89). -/
theorem rowLevels_zero (k : Nat) : rowLevels 0 k = List.replicate k .low := by
  refine List.eq_replicate_iff.mpr ⟨rowLevels_length 0 k, fun l hl => ?_⟩
  obtain ⟨j, -, rfl⟩ := List.mem_map.mp hl
  simp [ofLevel_levelOf]

/-- Settles O27: the frame of a row, and the row of the all-LOW pattern. -/
theorem sequencerCommandsKeepPosition : Obligations.SequencerCommandsKeepPosition := by
  rintro i s t hs hi ⟨s1, k, he, hend⟩
  have ⟨hinv, _, _⟩ := hs
  obtain ⟨op, hrow⟩ := hend.rowEnds_of_exec hs hi he
  obtain ⟨hidx, hdir, hdelay, hrem, hvar, hnum, hport, hans⟩ := hrow.frame
  refine ⟨hidx, hdir, hdelay, hrem, hvar, hnum, hport, hans, hrow.no_delayReq, fun hclear hok => ?_⟩
  have hzero : patternWritten s.variant i = 0 := by obtain rfl | rfl := hclear <;> rfl
  rw [hrow.pins_of_ok hinv.pins_length hok, startDrive_pattern, hzero]
  exact rowLevels_zero _

end Sys2Proof.Machine

/-! SUPPORT. Proofs about the controller (41_controller.md): the accepting transitions and the transitions between them,
the physical steps of a MOVE, how a MOVE ends, and the statements settled from them. -/

namespace Sys2Proof.Machine

/-! ### What the operands compute (R98, R99, R105) -/

theorem wrap32_stepDelayOf_toNat (n rpm : Nat) : (wrap32 (stepDelayOf n rpm)).toNat = stepDelayOf n rpm := by
  have hle := stepDelayOf_le n rpm
  rw [wrap32, BitVec.toNat_ofNat, Nat.mod_eq_of_lt (by omega)]

/-- Dividing left to right is dividing by the unwrapped product (R99). -/
theorem stepDelayOf_eq_div_mul {n rpm : Nat} (hrpm : 0 < rpm) (hn : 0 < n) :
    stepDelayOf n rpm = 60000000 / (n * rpm) := by
  rw [stepDelayOf, if_neg (by omega), usPerMinute, Nat.div_div_eq_div_mul]

theorem moveMagnitude_eq_zero_iff {n : Int} (hn : (Instr.move n).wf = true) : moveMagnitude n = 0 ↔ n = 0 := by
  rw [← Int.natAbs_eq_zero, ← moveMagnitude_toNat hn]
  exact BitVec.toNat_eq

/-- In range, FORWARD is `(i + 1) mod N` (R105). -/
theorem nextIndex_forward_toNat {i n : U32} (h : i.toNat < n.toNat) :
    (nextIndex i .forward n).toNat = (i.toNat + 1) % n.toNat := by
  simp only [nextIndex]
  split
  · next heq =>
    have hn : n.toNat = i.toNat + 1 := by bv_omega
    rw [hn, Nat.mod_self]
    rfl
  · next hne =>
    rw [Nat.mod_eq_of_lt (by bv_omega)]
    bv_omega

/-- In range, BACKWARD is `(i + N - 1) mod N` (R105). -/
theorem nextIndex_backward_toNat {i n : U32} (h : i.toNat < n.toNat) :
    (nextIndex i .backward n).toNat = (i.toNat + n.toNat - 1) % n.toNat := by
  simp only [nextIndex]
  split
  · next heq =>
    rw [Nat.mod_eq_of_lt (by bv_omega)]
    bv_omega
  · next hne =>
    have hpos : 1 ≤ i.toNat := by bv_omega
    rw [Nat.sub_add_comm hpos, Nat.add_mod_right, Nat.mod_eq_of_lt (by omega)]
    bv_omega

/-- With NUM_STEPS 0 the index wraps modulo 2^32 (R106). -/
theorem nextIndex_zero_forward (i : U32) : nextIndex i .forward 0 = i + 1 := by
  simp only [nextIndex]
  split
  · next h => exact h.symm
  · rfl

theorem nextIndex_zero_backward (i : U32) : nextIndex i .backward 0 = i - 1 := by
  simp only [nextIndex]
  split
  · next h => rw [h]
  · rfl

/-! ### The accepting transitions (R97, R100, R117) -/

/-- Settles O13: the delay is the quotient, and a quotient is no larger than 60,000,000. -/
theorem setSpeedWritesStepDelay : Obligations.SetSpeedWritesStepDelay := by
  intro rpm s
  have hdiv : 60000000 / s.numSteps.toNat ≤ 60000000 := Nat.div_le_self _ _
  have hdiv' := Nat.div_le_self (60000000 / s.numSteps.toNat) rpm
  exact ⟨_, exec_eq (.setSpeed rpm) s, wrap32_stepDelayOf_toNat _ _, by omega, by omega, rfl⟩

/-- Settles O14. -/
theorem stepDelayIsExactQuotient : Obligations.StepDelayIsExactQuotient := by
  intro rpm s hrpm hn
  exact ⟨_, exec_eq (.setSpeed rpm) s, (wrap32_stepDelayOf_toNat _ _).trans (stepDelayOf_eq_div_mul hrpm hn)⟩

/-- Settles O15: the magnitude is 0 for MOVE 0 only. -/
theorem moveAcceptSetsDirAndRemaining : Obligations.MoveAcceptSetsDirAndRemaining := by
  intro n s hwf
  refine ⟨fun h0 => ?_, fun hne => ⟨_, exec_eq (.move n) s, ?_, ?_⟩⟩
  · subst h0
    rfl
  · rw [execState_move_of_ne_zero (mt (moveMagnitude_eq_zero_iff hwf).mp hne)]
    exact moveMagnitude_toNat hwf
  · rw [execState_move_of_ne_zero (mt (moveMagnitude_eq_zero_iff hwf).mp hne)]
    rfl

/-- Settles O16. -/
theorem clearCommandsStartDrive : Obligations.ClearCommandsStartDrive :=
  fun s => ⟨exec_eq .deenergize s, exec_eq .seqClear s⟩

/-! ### DELAY_ISSUE, DELAY_WAIT and ADVANCE (R102 to R104) -/

/-- Settles O18. -/
theorem delayIssueRequestsStepDelay : Obligations.DelayIssueRequestsStepDelay := by
  intro s hr hp
  refine ⟨delayIssue s, step_of_took (.delayIssue hr hp), ?_, ?_⟩ <;> rw [delayIssue_eq]
  rfl

/-- Settles O19: the three things the delay device can be at. -/
theorem delayWaitConsumesAnswer : Obligations.DelayWaitConsumesAnswer := fun _ hr hp hq =>
  ⟨fun hd => step_of_took (.delayDone hr hp hq hd), fun n hd => step_of_took (.delayTick n hr hp hq hd),
    fun hd => step_of_took (.delayHang hr hp hq hd)⟩

/-- Settles O20: the new index is `nextIndex`, in the direction that DIR gives. -/
theorem advanceMovesIndexAndLoadsRow : Obligations.AdvanceMovesIndexAndLoadsRow := by
  intro s hr hp
  have hidx : (advance s).stepIndex = nextIndex s.stepIndex s.dir s.numSteps := rfl
  refine ⟨advance s, step_of_took (.advance hr hp), rfl, ?_⟩
  rw [hidx]
  refine ⟨fun hd => ?_, fun hd => ?_, fun hlt => ⟨nextIndex_lt s.dir hlt, fun hd => ?_, fun hd => ?_⟩,
    fun h0 => ⟨fun hd => ?_, fun hd => ?_⟩⟩ <;> rw [hd]
  · rfl
  · rfl
  · exact nextIndex_forward_toNat hlt
  · exact nextIndex_backward_toNat hlt
  · rw [h0, nextIndex_zero_forward]
    exact BitVec.toNat_add _ _
  · rw [h0, nextIndex_zero_backward]
    bv_omega

/-! ### The error of a PIN_FAIL (R120, R122) -/

/-- What a command's accepting transition completes, it completes with OK (R97, R100). -/
theorem execState_trace (i : Instr) (s : State) :
    (execState i s).trace = s.trace ∨ (execState i s).trace = s.trace ++ [.complete .ok] := by
  cases i with
  | setSpeed rpm => exact .inr rfl
  | move n =>
    by_cases hm : moveMagnitude n = 0
    · rw [execState_move_of_eq_zero hm]
      exact .inr rfl
    · rw [execState_move_of_ne_zero hm]
      exact .inl rfl
  | deenergize | seqStep | seqClear => exact .inl rfl

/-- DRIVE passes on the error it was answered with (R93, R122). -/
theorem eq_err_of_driveAnswered {k : Nat} {r : PinAnswer} {s : State} {e : PinError}
    (hs : s.trace.getLast? ≠ some (.complete (.pinFail e)))
    (h : (driveAnswered k r s).trace.getLast? = some (.complete (.pinFail e))) : r = .err e := by
  obtain ⟨-, -, heq⟩ | ⟨-, -, -, heq⟩ | ⟨-, -, -, -, heq⟩ | ⟨-, -, -, -, heq⟩ | ⟨e', hr, heq⟩ :=
    driveAnswered_cases k r s <;> rw [heq] at h
  · exact absurd h hs
  · simp at h
  · simp at h
  · exact absurd h hs
  · obtain rfl : e' = e := by simpa using h
    exact hr

/-- Settles O48: of all transitions only DRIVE completes with PIN_FAIL, and it passes its answer on. -/
theorem pinFailIsPassThrough : Obligations.PinFailIsPassThrough := by
  rintro s t e hr hstep ⟨evs, hfail⟩
  have hlast : t.trace.getLast? = some (.complete (.pinFail e)) := by rw [hfail, List.getLast?_concat]
  have hnew : t.trace ≠ s.trace := by simp [hfail]
  cases step_took hstep with
  | reset v n h => simp [hr] at h
  | idleWait | delayTick | delayHang | advance => exact absurd rfl hnew
  | command w rest i =>
    obtain h | h := execState_trace i (afterFetch w rest s) <;> rw [h] at hlast <;> simp [afterFetch] at hlast
  | illegal | delayIssue | delayDone => simp [raiseIllegal, consumeDelayDone] at hlast
  | drive _ hp => exact ⟨hp, eq_err_of_driveAnswered (by simp) hlast⟩

/-! ### One physical step of a MOVE (R102 to R104, R108) -/

/-- A MOVE is about to begin a physical step. -/
structure State.BeginsStep (s : State) : Prop where
  resetIn : s.resetIn = none
  phase : s.phase = .delayIssue
  curOp : s.curOp = .move
  pins_length : s.pins.length = s.variant.npins

/-- The physical step begun in `s`, up to its first pin write: the delay has been requested and awaited, and the row of
the new index loaded. `late` is how many late answers are still to come after the wait (log 6). -/
def rowBegun (late : Nat) (s : State) : State := advance (consumeDelayDone { delayIssue s with lateDones := late })

@[simp] theorem rowBegun_frame (late : Nat) (s : State) :
    (rowBegun late s).variant = s.variant ∧ (rowBegun late s).numSteps = s.numSteps ∧ (rowBegun late s).dir = s.dir ∧
    (rowBegun late s).stepDelay = s.stepDelay ∧ (rowBegun late s).remaining = s.remaining ∧
    (rowBegun late s).curOp = s.curOp ∧ (rowBegun late s).pins = s.pins ∧ (rowBegun late s).resetIn = s.resetIn ∧
    (rowBegun late s).gpioAnswers = s.gpioAnswers := by
  simp [rowBegun, advance, consumeDelayDone, delayIssue_eq]

@[simp] theorem rowBegun_phase (late : Nat) (s : State) : (rowBegun late s).phase = .drive := rfl

@[simp] theorem rowBegun_pinCursor (late : Nat) (s : State) : (rowBegun late s).pinCursor = 1 := rfl

@[simp] theorem rowBegun_stepIndex (late : Nat) (s : State) :
    (rowBegun late s).stepIndex = nextIndex s.stepIndex s.dir s.numSteps := by
  simp [rowBegun, advance, consumeDelayDone, delayIssue_eq]

@[simp] theorem rowBegun_pattern (late : Nat) (s : State) :
    (rowBegun late s).pattern = patternOf s.variant (nextIndex s.stepIndex s.dir s.numSteps).toNat := by
  simp [rowBegun, advance, consumeDelayDone, delayIssue_eq]

@[simp] theorem rowBegun_trace (late : Nat) (s : State) :
    (rowBegun late s).trace = s.trace ++ [.delayReq s.stepDelay, .delayDone] := by
  simp [rowBegun, advance, consumeDelayDone, delayIssue_eq]

/-- The physical step whose row was begun in `w`, with every pin written and answered Ok, has been counted off. -/
def stepDone (w : State) : State :=
  { rowWritten w.variant.npins w with pinCursor := 0, remaining := w.remaining - 1, phase := .delayIssue }

@[simp] theorem stepDone_frame (w : State) :
    (stepDone w).variant = w.variant ∧ (stepDone w).numSteps = w.numSteps ∧ (stepDone w).stepIndex = w.stepIndex ∧
    (stepDone w).dir = w.dir ∧ (stepDone w).stepDelay = w.stepDelay ∧ (stepDone w).curOp = w.curOp ∧
    (stepDone w).resetIn = w.resetIn :=
  ⟨rfl, rfl, rfl, rfl, rfl, rfl, rfl⟩

@[simp] theorem stepDone_phase (w : State) : (stepDone w).phase = .delayIssue := rfl

@[simp] theorem stepDone_remaining (w : State) : (stepDone w).remaining = w.remaining - 1 := rfl

@[simp] theorem stepDone_trace (w : State) :
    (stepDone w).trace = w.trace ++ (pinOrder w.variant.npins).map (writeEvent w.pattern .ok) := rfl

@[simp] theorem stepDone_gpioAnswers (w : State) :
    (stepDone w).gpioAnswers = w.gpioAnswers.drop w.variant.npins := rfl

/-- The events of a whole physical step (R110). -/
theorem stepDone_rowBegun_trace (late : Nat) (s : State) :
    (stepDone (rowBegun late s)).trace = s.trace ++ ([.delayReq s.stepDelay, .delayDone] ++
      (pinOrder s.variant.npins).map (writeEvent (rowBegun late s).pattern .ok)) := by
  simp

theorem stepDone_pins {w : State} (hlen : w.pins.length = w.variant.npins) :
    (stepDone w).pins = rowLevels w.pattern w.variant.npins := by
  simp [stepDone, ← hlen]

/-- The writes of p1 to pk in the row begun in `w` are all answered Ok. -/
def AnswersOk (k : Nat) (w : State) : Prop := ∀ i < k, pinAnswerOf (rowWritten i w) = .ok

theorem AnswersOk.succ {k : Nat} {w : State} (h : AnswersOk k w) (hk : pinAnswerOf (rowWritten k w) = .ok) :
    AnswersOk (k + 1) w := by
  intro i hi
  obtain hlt | rfl := Nat.lt_succ_iff_lt_or_eq.mp hi
  · exact h i hlt
  · exact hk

/-- The row begun in `w` has its first failing write after the pin pk, answered Err(e) (R93). -/
structure RowFails (w : State) (k : Nat) (e : PinError) : Prop where
  lt : k < w.variant.npins
  before : AnswersOk k w
  answer : pinAnswerOf (rowWritten k w) = .err e

/-- The row begun in `w` after that failing write: the command has ended with PIN_FAIL(e) (R93, R109). -/
def rowFailed (k : Nat) (e : PinError) (w : State) : State :=
  complete (.pinFail e) (pinWrite (k + 1) (levelOf w.pattern (k + 1)) (rowWritten k w))

@[simp] theorem rowFailed_frame (k : Nat) (e : PinError) (w : State) :
    (rowFailed k e w).stepIndex = w.stepIndex ∧ (rowFailed k e w).dir = w.dir ∧
    (rowFailed k e w).stepDelay = w.stepDelay ∧ (rowFailed k e w).remaining = w.remaining ∧
    (rowFailed k e w).result = .pinFail ∧ (rowFailed k e w).lastErr = some e ∧
    (rowFailed k e w).gpioAnswers = w.gpioAnswers.drop (k + 1) := by
  simp [rowFailed, rowWritten]

theorem RowFails.trace {w : State} {k : Nat} {e : PinError} (h : RowFails w k e) :
    (rowFailed k e w).trace = w.trace ++ ((pinOrder k).map (writeEvent w.pattern .ok) ++
      [writeEvent w.pattern (.err e) (k + 1)]) ++ [.complete (.pinFail e)] := by
  simp [rowFailed, h.answer, writeEvent]

/-! ### The transitions of a physical step -/

/-- A command that ends from DELAY_WAIT gets its delay answer, after whatever wait (R103). -/
theorem EndsIn.after_delayWait {s t : State} {a : DelayAnswer} {k : Nat} (hr : s.resetIn = none)
    (hp : s.phase = .delayWait) (hq : s.delayPending = true) (hd : s.delayDevice = some a) (h : EndsIn k s t) :
    ∃ late k', EndsIn k' (consumeDelayDone { s with lateDones := late }) t := by
  induction k generalizing s a with
  | zero => simp [h.idle_of_zero] at hp
  | succ k ih =>
    cases a with
    | never => exact ih (s := waitStep s) hr hp hq hd (h.after_step (step_of_took (.delayHang hr hp hq hd)))
    | after n =>
      cases n with
      | zero => exact ⟨s.lateDones, k, h.after_step (step_of_took (.delayDone hr hp hq hd))⟩
      | succ n =>
        exact ih (s := waitStep { s with delayDevice := some (.after n) }) hr hp hq rfl
          (h.after_step (step_of_took (.delayTick n hr hp hq hd)))

/-- A MOVE that ends from DELAY_ISSUE gets as far as the row of the step it begins (R102 to R104). -/
theorem EndsIn.after_delayIssue {s t : State} {k : Nat} (hs : s.BeginsStep) (h : EndsIn k s t) :
    ∃ late k', EndsIn k' (rowBegun late s) t := by
  have hr : (delayIssue s).resetIn = none := by simp [delayIssue_eq, hs.resetIn]
  cases k with
  | zero => simpa [hs.phase] using h.idle_of_zero
  | succ k =>
    have hwait := h.after_step (step_of_took (.delayIssue hs.resetIn hs.phase))
    obtain ⟨late, k', h'⟩ := hwait.after_delayWait hr rfl rfl (by rw [delayIssue_eq])
    cases k' with
    | zero => simpa [consumeDelayDone] using h'.idle_of_zero
    | succ k' => exact ⟨late, k', h'.after_step (step_of_took (.advance hr rfl))⟩

section
variable {w : State} (hlen : w.pins.length = w.variant.npins) (hr : w.resetIn = none) (hp : w.phase = .drive)
  (hop : w.curOp = .move)
include hlen hr hp hop

/-- The last pin of a MOVE's row, answered Ok, is the end of the physical step (R108). -/
theorem step_rowWritten_of_last_move {k : Nat} (hk : k + 1 = w.variant.npins)
    (hok : pinAnswerOf (rowWritten k w) = .ok) :
    step (rowWritten k w) =
      .next (if w.remaining = 1 then complete .ok (stepDone w) else stepDone w) := by
  rw [step_rowWritten hr hp (by omega), hok, driveAnswered, stepDone, ← hk, ← pinWrite_rowWritten (by omega) hok]
  by_cases hone : w.remaining = 1
  · rw [if_pos hone, driveOk_of_last_move (by simpa using hk.ge) (by simpa using hop) (by simpa using hone), hone]
    rfl
  · rw [if_neg hone, driveOk_of_last_move_more (by simpa using hk.ge) (by simpa using hop) (by simpa using hone)]
    simp

/-- A MOVE that ends from within a row fails at one of the row's pins, or writes them all and goes on. -/
theorem EndsIn.after_row {t : State} {k j : Nat} (hj : j < w.variant.npins) (hbefore : AnswersOk j w)
    (h : EndsIn k (rowWritten j w) t) :
    (∃ i e, RowFails w i e ∧ t = rowFailed i e w) ∨
    (AnswersOk w.variant.npins w ∧
      ∃ k', EndsIn k' (if w.remaining = 1 then complete .ok (stepDone w) else stepDone w) t) := by
  induction k generalizing j with
  | zero => simpa [hp] using h.idle_of_zero
  | succ k ih =>
    cases hans : pinAnswerOf (rowWritten j w) with
    | err e =>
      have hstep := step_rowWritten hr hp hj
      rw [hans] at hstep
      exact .inl ⟨j, e, ⟨hj, hbefore, hans⟩, ((h.after_step hstep).of_idle rfl).2⟩
    | ok =>
      have hok := hbefore.succ hans
      obtain hlt | hlast := Nat.lt_or_eq_of_le (Nat.succ_le_of_lt hj)
      · exact ih hlt hok (h.after_step (step_rowWritten_of_lt hlen hr hp hlt hans))
      · exact .inr ⟨hlast ▸ hok, k, h.after_step (step_rowWritten_of_last_move hlen hr hp hop hlast hans)⟩

end

/-- A MOVE that ends from DELAY_ISSUE fails in the physical step it begins, or does all of it. -/
theorem EndsIn.after_physicalStep {s t : State} {k : Nat} (hs : s.BeginsStep) (h : EndsIn k s t) :
    ∃ late, (∃ i e, RowFails (rowBegun late s) i e ∧ t = rowFailed i e (rowBegun late s)) ∨
      (AnswersOk s.variant.npins (rowBegun late s) ∧ ∃ k', EndsIn k'
        (if s.remaining = 1 then complete .ok (stepDone (rowBegun late s)) else stepDone (rowBegun late s)) t) := by
  obtain ⟨late, k', hrow⟩ := h.after_delayIssue hs
  rw [← rowWritten_zero (rowBegun_pinCursor late s)] at hrow
  have hend := hrow.after_row (by simp [hs.pins_length]) (by simp [hs.resetIn]) rfl (by simp [hs.curOp]) (npins_pos _)
    (fun i hi => absurd hi i.not_lt_zero)
  exact ⟨late, by simpa using hend⟩

/-! ### The physical steps of a MOVE -/

/-- From `s`, about to begin a physical step, `j` of them lead to `u`, every pin write answered Ok. -/
inductive StepsDone (s : State) : Nat → State → Prop where
  | zero : StepsDone s 0 s
  | succ {j : Nat} {u : State} (late : Nat) (h : StepsDone s j u)
      (hok : AnswersOk u.variant.npins (rowBegun late u)) : StepsDone s (j + 1) (stepDone (rowBegun late u))

/-- How a MOVE of `m` physical steps ends that is about to begin the first one in `s` (R108, R109). -/
inductive MoveEnds (s : State) (m : Nat) : State → Prop where
  | ok {u : State} (h : StepsDone s m u) : MoveEnds s m (complete .ok u)
  | failed {j k late : Nat} {u : State} {e : PinError} (h : StepsDone s j u) (hj : j < m)
      (hrow : RowFails (rowBegun late u) k e) : MoveEnds s m (rowFailed k e (rowBegun late u))

theorem State.BeginsStep.next {u : State} (hu : u.BeginsStep) (late : Nat) :
    (stepDone (rowBegun late u)).BeginsStep where
  resetIn := by simp [hu.resetIn]
  phase := rfl
  curOp := by simp [hu.curOp]
  pins_length := by rw [stepDone_pins (by simp [hu.pins_length])]; simp

namespace StepsDone

variable {s u : State} {j : Nat} (h : StepsDone s j u)
include h

theorem beginsStep (hs : s.BeginsStep) : u.BeginsStep := by
  induction h with
  | zero => exact hs
  | succ late _ _ ih => exact ih.next late

/-- Physical steps leave the configuration, DIR and STEP_DELAY alone. -/
theorem frame : u.variant = s.variant ∧ u.numSteps = s.numSteps ∧ u.dir = s.dir ∧ u.stepDelay = s.stepDelay := by
  induction h with
  | zero => exact ⟨rfl, rfl, rfl, rfl⟩
  | succ late _ _ ih => simpa using ih

/-- Each physical step counts REMAINING down by one (R108). -/
theorem remaining (hj : j ≤ s.remaining.toNat) : u.remaining.toNat = s.remaining.toNat - j := by
  induction h with
  | zero => rfl
  | succ late _ _ ih =>
    have := ih (by omega)
    simp only [stepDone_remaining, rowBegun_frame]
    bv_omega

end StepsDone

/-- From within a MOVE with `d + 1` physical steps still to do, the end is one of the MOVE's two ends. -/
theorem EndsIn.moveEnds {s u t : State} {j d k : Nat} (hs : s.BeginsStep) (hu : StepsDone s j u)
    (hrem : u.remaining.toNat = d + 1) (h : EndsIn k u t) : MoveEnds s (j + (d + 1)) t := by
  induction d generalizing j u k with
  | zero =>
    obtain ⟨late, ⟨i, e, hfail, rfl⟩ | ⟨hok, k', hend⟩⟩ := h.after_physicalStep (hu.beginsStep hs)
    · exact .failed hu (by omega) hfail
    · rw [if_pos (BitVec.eq_of_toNat_eq hrem)] at hend
      obtain ⟨-, rfl⟩ := hend.of_idle rfl
      exact .ok (hu.succ late hok)
  | succ d ih =>
    obtain ⟨late, ⟨i, e, hfail, rfl⟩ | ⟨hok, k', hend⟩⟩ := h.after_physicalStep (hu.beginsStep hs)
    · exact .failed hu (by omega) hfail
    · rw [if_neg (by bv_omega)] at hend
      have hrem' : (stepDone (rowBegun late u)).remaining.toNat = d + 1 := by
        simp only [stepDone_remaining, rowBegun_frame]
        bv_omega
      have hmove := ih (hu.succ late hok) hrem' hend
      rwa [show j + 1 + (d + 1) = j + (d + 1 + 1) by omega] at hmove

/-- The block as MOVE's accepting transition leaves it when there are physical steps to do (R100). -/
def moveBegun (n : Int) (s : State) : State :=
  { s with dir := moveDir n, remaining := moveMagnitude n, curOp := .move, phase := .delayIssue, busy := true }

@[simp] theorem moveBegun_frame (n : Int) (s : State) :
    (moveBegun n s).variant = s.variant ∧ (moveBegun n s).numSteps = s.numSteps ∧
    (moveBegun n s).stepIndex = s.stepIndex ∧ (moveBegun n s).dir = moveDir n ∧
    (moveBegun n s).stepDelay = s.stepDelay ∧ (moveBegun n s).remaining = moveMagnitude n ∧
    (moveBegun n s).pins = s.pins ∧ (moveBegun n s).trace = s.trace ∧
    (moveBegun n s).gpioAnswers = s.gpioAnswers :=
  ⟨rfl, rfl, rfl, rfl, rfl, rfl, rfl, rfl, rfl⟩

theorem Ready.moveBegun_beginsStep {s : State} (hs : Ready s) (n : Int) : (moveBegun n s).BeginsStep := by
  obtain ⟨hinv, hr, -⟩ := hs
  exact ⟨hr, rfl, rfl, hinv.pins_length⟩

/-- A MOVE accepted in a ready block ends in one of its two ways; MOVE 0 does after no physical step. -/
theorem Ends.moveEnds {n : Int} {s t : State} (hs : Ready s) (hn : (Instr.move n).wf = true)
    (h : Ends (.move n) s t) : MoveEnds (moveBegun n s) n.natAbs t := by
  obtain ⟨s1, k, hexec, hend⟩ := h
  obtain rfl : execState (.move n) s = s1 := by simpa [exec_eq] using hexec
  have hmag := moveMagnitude_toNat hn
  by_cases hzero : moveMagnitude n = 0
  · rw [execState_move_of_eq_zero hzero] at hend
    obtain ⟨-, rfl⟩ := hend.of_idle rfl
    have hdone : MoveEnds (moveBegun n s) 0 (complete .ok (moveBegun n s)) := .ok .zero
    rw [show n.natAbs = 0 from hmag ▸ congrArg BitVec.toNat hzero, ← hzero]
    exact hdone
  · rw [execState_move_of_ne_zero hzero] at hend
    obtain ⟨d, hd⟩ : ∃ d, n.natAbs = d + 1 := Nat.exists_eq_succ_of_ne_zero (by bv_omega)
    have hmove := EndsIn.moveEnds (hs.moveBegun_beginsStep n) .zero (hmag.trans hd) hend
    rwa [Nat.zero_add, ← hd] at hmove

/-! ### The index of a MOVE (R105, R111) -/

/-- An advance more is an advance of the index reached so far. -/
theorem indexAfter_succ (d : Direction) (n : U32) (j : Nat) (i : U32) :
    indexAfter d n (j + 1) i = nextIndex (indexAfter d n j i) d n := by
  induction j generalizing i with
  | zero => rfl
  | succ j ih => exact ih (nextIndex i d n)

/-- What a step in a direction adds to the index. -/
def Direction.sign : Direction → Int
  | .forward => 1
  | .backward => -1

theorem moveDir_sign_mul_natAbs (n : Int) : (moveDir n).sign * n.natAbs = n := by
  unfold moveDir
  split <;> simp only [Direction.sign] <;> omega

theorem nextIndex_toInt {i n : U32} (d : Direction) (h : i.toNat < n.toNat) :
    ((nextIndex i d n).toNat : Int) = (i.toNat + d.sign) % n.toNat := by
  cases d with
  | forward =>
    rw [nextIndex_forward_toNat h]
    rfl
  | backward =>
    rw [nextIndex_backward_toNat h, Int.natCast_emod, Nat.cast_sub (by omega), Nat.cast_add, Direction.sign,
      add_sub_right_comm, Int.add_emod_right]
    rfl

/-- The index after `j` steps is reached modulo NUM_STEPS (R111). -/
theorem indexAfter_toInt {i n : U32} (d : Direction) (j : Nat) (h : i.toNat < n.toNat) :
    ((indexAfter d n j i).toNat : Int) = (i.toNat + d.sign * j) % n.toNat := by
  induction j generalizing i with
  | zero => simp [indexAfter, Int.emod_eq_of_lt, h]
  | succ j ih =>
    calc ((indexAfter d n j (nextIndex i d n)).toNat : Int)
      _ = ((nextIndex i d n).toNat + d.sign * j) % n.toNat := ih (nextIndex_lt d h)
      _ = (i.toNat + d.sign + d.sign * j) % n.toNat := by rw [nextIndex_toInt d h, Int.emod_add_emod]
      _ = (i.toNat + d.sign * (j + 1 : Nat)) % n.toNat := by push_cast; ring_nf

namespace StepsDone

variable {s u : State} {j : Nat} (h : StepsDone s j u)
include h

theorem stepIndex : u.stepIndex = indexAfter s.dir s.numSteps j s.stepIndex := by
  induction h with
  | zero => rfl
  | succ late h _ ih =>
    obtain ⟨-, hnum, hdir, -⟩ := h.frame
    rw [indexAfter_succ, ← ih, ← hnum, ← hdir]
    simp

/-- After a physical step the pins carry the row of STEP_INDEX (R111). -/
theorem pins (hs : s.BeginsStep) (hj : j ≠ 0) :
    u.pins = rowLevels (patternOf s.variant u.stepIndex.toNat) s.variant.npins := by
  cases h with
  | zero => exact absurd rfl hj
  | succ late h =>
    have hlen := (h.beginsStep hs).pins_length
    obtain ⟨hvar, -, -, -⟩ := h.frame
    rw [stepDone_pins (by simpa using hlen)]
    simp [hvar]

end StepsDone

theorem readPin_of_pins_eq_rowLevels {s : State} {p : BitVec 5} {n k : Nat} (h : s.pins = rowLevels p n)
    (hk : k ∈ pinOrder n) : readPin s k = PinLevel.ofLevel (levelOf p k) := by
  obtain ⟨h1, hn⟩ := mem_pinOrder.mp hk
  obtain ⟨i, rfl⟩ := Nat.exists_eq_add_of_le' h1
  have hi : i < n := hn
  simp [readPin, h, rowLevels, pinOrder, hi]

/-- Of the magnitude of a MOVE, `j` physical steps are counted off (R108, R119). -/
theorem StepsDone.remaining_of_moveBegun {n : Int} {s u : State} {j : Nat} (h : StepsDone (moveBegun n s) j u)
    (hn : (Instr.move n).wf = true) (hj : j ≤ n.natAbs) : u.remaining.toNat = n.natAbs - j := by
  have hmag : (moveBegun n s).remaining.toNat = n.natAbs := moveMagnitude_toNat hn
  rw [h.remaining (hj.trans_eq hmag.symm), hmag]

/-- Settles O28: what the physical steps of the whole magnitude leave. -/
theorem moveEndsOk : Obligations.MoveEndsOk := by
  intro n s t hs hn h hok
  cases h.moveEnds hs hn with
  | failed => cases hok
  | @ok u hu =>
    obtain ⟨hvar, hnum, hdir, hdelay⟩ := hu.frame
    have hidx : u.stepIndex = indexAfter (moveDir n) s.numSteps n.natAbs s.stepIndex := hu.stepIndex
    have hrem : u.remaining.toNat = 0 := (hu.remaining_of_moveBegun hn le_rfl).trans (Nat.sub_self _)
    refine ⟨hidx, fun hne => ?_, BitVec.eq_of_toNat_eq hrem, hdir, hdelay, hvar, hnum, rfl, fun hne p hp => ?_,
      fun h0 => ?_⟩
    · rw [complete_stepIndex, hidx, indexAfter_toInt _ _ (hs.1.index_lt hne), moveDir_sign_mul_natAbs]
    · exact readPin_of_pins_eq_rowLevels (hu.pins (hs.moveBegun_beginsStep n) (Int.natAbs_ne_zero.mpr hne)) hp
    · subst h0
      cases hu
      rfl

/-- Settles O29: the step that fails has advanced the index and has not been counted off. -/
theorem moveEndsFailed : Obligations.MoveEndsFailed := by
  intro n s t hs hn h hfail
  cases h.moveEnds hs hn with
  | ok => exact absurd rfl hfail
  | @failed j k late u e hu hj hrow =>
    obtain ⟨-, hnum, hdir, hdelay⟩ := hu.frame
    have hrem : (rowFailed k e (rowBegun late u)).remaining.toNat = n.natAbs - j := by
      simpa using hu.remaining_of_moveBegun hn hj.le
    refine ⟨j + 1, e, by omega, hj, by simp, by simp, ?_, by omega, by simp [hdir, moveDir], by simpa using hdelay⟩
    rw [indexAfter_succ, ← moveDir]
    simp [hnum, hdir, hu.stepIndex]

/-! ### The events of a MOVE (R110) -/

/-- `evs` holds `d` delay requests, as many delay answers, and `w` pin writes. -/
structure EventCounts (evs : List Event) (d w : Nat) : Prop where
  delayReq : evs.countP Event.isDelayReq = d
  delayDone : evs.countP Event.isDelayDone = d
  pinWrite : evs.countP Event.isPinWrite = w

theorem EventCounts.append {es fs : List Event} {d d' w w' : Nat} (he : EventCounts es d w)
    (hf : EventCounts fs d' w') : EventCounts (es ++ fs) (d + d') (w + w') where
  delayReq := by rw [List.countP_append, he.delayReq, hf.delayReq]
  delayDone := by rw [List.countP_append, he.delayDone, hf.delayDone]
  pinWrite := by rw [List.countP_append, he.pinWrite, hf.pinWrite]

theorem eventCounts_delay (us : U32) : EventCounts [.delayReq us, .delayDone] 1 0 := ⟨rfl, rfl, rfl⟩

theorem eventCounts_complete (c : Completion) : EventCounts [.complete c] 0 0 := ⟨rfl, rfl, rfl⟩

theorem eventCounts_writeEvent (p : BitVec 5) (r : PinAnswer) (k : Nat) : EventCounts [writeEvent p r k] 0 1 :=
  ⟨rfl, rfl, rfl⟩

theorem eventCounts_row (p : BitVec 5) (n : Nat) : EventCounts ((pinOrder n).map (writeEvent p .ok)) 0 n := by
  induction n with
  | zero => exact ⟨rfl, rfl, rfl⟩
  | succ n ih =>
    rw [pinOrder_succ, List.map_append]
    exact ih.append (eventCounts_writeEvent p .ok (n + 1))

/-- `j` physical steps take `j` delays and `j` rows (R110). -/
theorem StepsDone.events {s u : State} {j : Nat} (h : StepsDone s j u) :
    ∃ evs, u.trace = s.trace ++ evs ∧ EventCounts evs j (j * s.variant.npins) := by
  induction h with
  | zero => exact ⟨[], (List.append_nil _).symm, rfl, rfl, (Nat.zero_mul _).symm⟩
  | @succ j u late h _ ih =>
    obtain ⟨evs, htr, hevs⟩ := ih
    obtain ⟨hvar, -, -, -⟩ := h.frame
    rw [stepDone_rowBegun_trace, htr, hvar, List.append_assoc, Nat.succ_mul]
    have hstep := (eventCounts_delay u.stepDelay).append (eventCounts_row (rowBegun late u).pattern s.variant.npins)
    exact ⟨_, rfl, by simpa using hevs.append hstep⟩

/-- Settles O30: the events of the physical steps done, and of the one that fails. -/
theorem moveEventCounts : Obligations.MoveEventCounts := by
  intro n s t hs hn _ h
  cases h.moveEnds hs hn with
  | ok hu =>
    obtain ⟨evs, htr, hevs⟩ := hu.events
    obtain ⟨hreq, hdone, hwrite⟩ := hevs.append (eventCounts_complete .ok)
    exact ⟨evs ++ [.complete .ok], by simp [htr], fun _ => ⟨hreq, hdone, hwrite⟩, fun hne => absurd rfl hne⟩
  | @failed j k late u e hu hj hrow =>
    obtain ⟨evs, htr, hevs⟩ := hu.events
    obtain ⟨hvar, -, -, -⟩ := hu.frame
    have hrem : (rowFailed k e (rowBegun late u)).remaining.toNat = n.natAbs - j := by
      simpa using hu.remaining_of_moveBegun hn hj.le
    have hwrites := (eventCounts_row (rowBegun late u).pattern k).append
      (eventCounts_writeEvent (rowBegun late u).pattern (.err e) (k + 1))
    obtain ⟨hreq, hdone, hwrite⟩ :=
      ((hevs.append (eventCounts_delay u.stepDelay)).append hwrites).append (eventCounts_complete (.pinFail e))
    refine ⟨_, by rw [hrow.trace, rowBegun_trace, htr]; simp, fun hok => by simp at hok, fun _ =>
      ⟨j + 1, k + 1, by omega, hj, by omega, by simpa [hvar] using hrow.lt, hreq, hdone, ?_, by omega⟩⟩
    simpa [hvar] using hwrite

/-! ### The reference function (R113) -/

/-- Over pins whose answers are all Ok, the inner loop writes them and goes on with the other pins. -/
theorem writeRow_append_of_ok {p : BitVec 5} {ks ks' : List Nat} {ans : List PinAnswer} {row : RowRun}
    (hok : ∀ i a, i < ks.length → ans[i]? = some a → a = .ok) (h : writeRow p (ks ++ ks') ans = some row) :
    ∃ row', writeRow p ks' (ans.drop ks.length) = some row' ∧
      row = { row' with events := ks.map (writeEvent p .ok) ++ row'.events } := by
  induction ks generalizing ans row with
  | nil => exact ⟨row, h, rfl⟩
  | cons k ks ih =>
    cases ans with
    | nil => cases h
    | cons a ans =>
      obtain rfl : a = .ok := hok 0 a (by simp) rfl
      simp only [List.cons_append, writeRow] at h
      split at h
      · next row₁ h₁ =>
        cases h
        obtain ⟨row', h', rfl⟩ := ih (fun i a hi ha => hok (i + 1) a (by simpa using hi) (by simpa using ha)) h₁
        exact ⟨row', h', rfl⟩
      · cases h

theorem pinOrder_length (n : Nat) : (pinOrder n).length = n := by simp [pinOrder]

theorem exists_pinOrder_eq_append {n k : Nat} (hk : k < n) : ∃ ks, pinOrder n = pinOrder k ++ (k + 1) :: ks := by
  obtain ⟨m, rfl⟩ := Nat.exists_eq_add_of_le (Nat.succ_le_of_lt hk)
  exact ⟨(List.range m).map (k + 1 + · + 1), by simp [pinOrder, List.range_add, List.range_succ]⟩

/-- A scripted answer is the one its write gets (R113, log 4). -/
theorem pinAnswerOf_rowWritten {w : State} {i : Nat} {a : PinAnswer} (h : w.gpioAnswers[i]? = some a) :
    pinAnswerOf (rowWritten i w) = a := by
  simp [pinAnswerOf, rowWritten, List.head?_drop, h]

/-- The scripted ones among the answers of a row's first pins are all Ok. -/
theorem AnswersOk.eq_ok_of_scripted {w : State} {k : Nat} (h : AnswersOk k w) (i : Nat) (a : PinAnswer)
    (hi : i < (pinOrder k).length) (ha : w.gpioAnswers[i]? = some a) : a = .ok := by
  rw [← pinAnswerOf_rowWritten ha]
  exact h i (hi.trans_eq (pinOrder_length k))

section
variable {w : State} {row : RowRun}
  (h : writeRow w.pattern (pinOrder w.variant.npins) w.gpioAnswers = some row)
include h

/-- The inner loop on a row whose writes are all answered Ok. -/
theorem AnswersOk.writeRow_eq (hok : AnswersOk w.variant.npins w) :
    row = ⟨(pinOrder w.variant.npins).map (writeEvent w.pattern .ok), none, w.gpioAnswers.drop w.variant.npins⟩ := by
  rw [← List.append_nil (pinOrder _)] at h
  obtain ⟨row', h', rfl⟩ := writeRow_append_of_ok hok.eq_ok_of_scripted h
  cases h'
  simp [pinOrder_length]

/-- The inner loop on a row that fails. -/
theorem RowFails.writeRow_eq {k : Nat} {e : PinError} (hrow : RowFails w k e) :
    row = ⟨(pinOrder k).map (writeEvent w.pattern .ok) ++ [writeEvent w.pattern (.err e) (k + 1)], some e,
      w.gpioAnswers.drop (k + 1)⟩ := by
  obtain ⟨hlt, hok, herr⟩ := hrow
  obtain ⟨ks, hks⟩ := exists_pinOrder_eq_append hlt
  rw [hks] at h
  obtain ⟨row', h', rfl⟩ := writeRow_append_of_ok hok.eq_ok_of_scripted h
  rw [pinOrder_length] at h'
  cases hdrop : w.gpioAnswers.drop k with
  | nil => simp [hdrop, writeRow] at h'
  | cons a rest =>
    obtain rfl : a = .err e := by
      rw [← herr]
      exact (pinAnswerOf_rowWritten (by rw [← List.head?_drop, hdrop, List.head?_cons])).symm
    rw [hdrop, writeRow] at h'
    cases h'
    rw [← List.drop_drop, hdrop]
    rfl

end

/-- All that an iteration of the outer loop can do: the row fails, or the loop goes on from the new index. -/
theorem moveLoop_succ_cases {v : Variant} {n us : U32} {d : Direction} {m : Nat} {i : U32} {ans : List PinAnswer}
    {r : MoveRun} (h : moveLoop v n d us (m + 1) i ans = some r) :
    ∃ row, writeRow (patternOf v (nextIndex i d n).toNat) (pinOrder v.npins) ans = some row ∧
      ((∃ e, row.failed = some e ∧
        r = ⟨nextIndex i d n, m + 1, .pinFail e, .delayReq us :: .delayDone :: row.events, row.rest⟩) ∨
      (row.failed = none ∧ ∃ r', moveLoop v n d us m (nextIndex i d n) row.rest = some r' ∧
        r = { r' with events := .delayReq us :: .delayDone :: (row.events ++ r'.events) })) := by
  simp only [moveLoop] at h
  split at h
  · cases h
  · next evs e rest hrow =>
    cases h
    exact ⟨_, hrow, .inl ⟨e, rfl, rfl⟩⟩
  · next evs rest hrow =>
    split at h
    · next r' hr' =>
      cases h
      exact ⟨_, hrow, .inr ⟨rfl, r', hr', rfl⟩⟩
    · cases h

/-- What the reference does for the `m` physical steps that begin in `s`. -/
def moveRest (s : State) (m : Nat) : Option MoveRun :=
  moveLoop s.variant s.numSteps s.dir s.stepDelay m s.stepIndex s.gpioAnswers

theorem moveBig_eq_moveRest (s : State) (n : Int) : moveBig s n s.gpioAnswers = moveRest (moveBegun n s) n.natAbs := rfl

/-- The reference takes a physical step that is answered Ok throughout as the block does, and goes on from there. -/
theorem AnswersOk.moveRest_succ {u : State} {late m : Nat} {r : MoveRun}
    (hok : AnswersOk u.variant.npins (rowBegun late u)) (h : moveRest u (m + 1) = some r) :
    ∃ evs r', (stepDone (rowBegun late u)).trace = u.trace ++ evs ∧
      moveRest (stepDone (rowBegun late u)) m = some r' ∧ r = { r' with events := evs ++ r'.events } := by
  obtain ⟨row, hrow, hcases⟩ := moveLoop_succ_cases h
  obtain rfl := AnswersOk.writeRow_eq (w := rowBegun late u) (by simpa using hrow) (by simpa using hok)
  obtain ⟨e, he, -⟩ | ⟨-, r', hr', rfl⟩ := hcases
  · cases he
  · exact ⟨_, r', stepDone_rowBegun_trace late u, by simpa [moveRest] using hr', by simp⟩

/-- The reference fails where a row of the block does (R109). -/
theorem RowFails.moveRest_succ {u : State} {late m k : Nat} {e : PinError} {r : MoveRun}
    (hrow : RowFails (rowBegun late u) k e) (h : moveRest u (m + 1) = some r) :
    ∃ evs, (rowFailed k e (rowBegun late u)).trace = u.trace ++ evs ++ [.complete (.pinFail e)] ∧
      r = ⟨nextIndex u.stepIndex u.dir u.numSteps, m + 1, .pinFail e, evs, u.gpioAnswers.drop (k + 1)⟩ := by
  obtain ⟨row, hwrite, hcases⟩ := moveLoop_succ_cases h
  obtain rfl := hrow.writeRow_eq (by simpa using hwrite)
  obtain ⟨e', he, rfl⟩ | ⟨hnone, -⟩ := hcases
  · cases he
    exact ⟨.delayReq u.stepDelay :: .delayDone :: ((pinOrder k).map (writeEvent (rowBegun late u).pattern .ok) ++
      [writeEvent (rowBegun late u).pattern (.err e) (k + 1)]), by simp [hrow.trace], by simp⟩
  · cases hnone

/-- The reference goes on where `j` physical steps of the block have led to, with their events recorded. -/
theorem StepsDone.moveRest_add {s u : State} {j m : Nat} {r : MoveRun} (h : StepsDone s j u)
    (hr : moveRest s (m + j) = some r) :
    ∃ evs r', u.trace = s.trace ++ evs ∧ moveRest u m = some r' ∧ r = { r' with events := evs ++ r'.events } := by
  induction h generalizing m with
  | zero => exact ⟨[], r, (List.append_nil _).symm, hr, rfl⟩
  | @succ j u late _ hok ih =>
    rw [show m + (j + 1) = m + 1 + j by omega] at hr
    obtain ⟨evs, r', htr, hr', rfl⟩ := ih hr
    obtain ⟨evs', r'', htr', hr'', rfl⟩ := hok.moveRest_succ hr'
    exact ⟨evs ++ evs', r'', by rw [htr', htr, List.append_assoc], hr'', by simp⟩

/-- Settles O31: a simulation, physical step by physical step. -/
theorem moveFollowsReference : Obligations.MoveFollowsReference := by
  intro n s t r hs hn h hbig
  rw [moveBig_eq_moveRest] at hbig
  cases h.moveEnds hs hn with
  | @ok u hu =>
    obtain ⟨-, -, hdir, -⟩ := hu.frame
    have hrem : u.remaining.toNat = 0 := (hu.remaining_of_moveBegun hn le_rfl).trans (Nat.sub_self _)
    obtain ⟨evs, r', htr, hr', rfl⟩ := hu.moveRest_add (m := 0) (by simpa using hbig)
    cases hr'
    exact ⟨by simp [htr], rfl, hrem, rfl, rfl, rfl, hdir⟩
  | @failed j k late u e hu hj hrow =>
    obtain ⟨-, -, hdir, -⟩ := hu.frame
    obtain ⟨m, hm⟩ := Nat.exists_eq_add_of_lt hj
    obtain ⟨evs, r', htr, hr', rfl⟩ := hu.moveRest_add (m := m + 1) (by rw [← hbig, hm]; congr 1; omega)
    obtain ⟨evs', htr', rfl⟩ := hrow.moveRest_succ hr'
    have hrem : u.remaining.toNat = m + 1 := (hu.remaining_of_moveBegun hn hj.le).trans (by omega)
    exact ⟨by simp [htr', htr], by simp, by simpa using hrem, by simp, by simp, by simp, by simp [hdir, moveDir]⟩

/-! ### MOVEs one after another (R114, R115) -/

@[simp] theorem execState_resetIn (i : Instr) (s : State) : (execState i s).resetIn = s.resetIn := by
  cases i with
  | move n =>
    by_cases hm : moveMagnitude n = 0
    · rw [execState_move_of_eq_zero hm, complete_resetIn]
    · rw [execState_move_of_ne_zero hm]
  | setSpeed | deenergize | seqStep | seqClear => rfl

@[simp] theorem driveAnswered_resetIn (k : Nat) (r : PinAnswer) (s : State) :
    (driveAnswered k r s).resetIn = s.resetIn := by
  obtain ⟨-, -, h⟩ | ⟨-, -, -, h⟩ | ⟨-, -, -, -, h⟩ | ⟨-, -, -, -, h⟩ | ⟨e, -, h⟩ := driveAnswered_cases k r s <;>
    simp [h]

/-- No transition asserts a reset. -/
theorem Took.resetIn_eq_none {s t : State} (h : Took s t) (hr : s.resetIn = none) : t.resetIn = none := by
  cases h with
  | reset => rfl
  | command w rest i => exact (execState_resetIn i (afterFetch w rest s)).trans hr
  | delayIssue => simpa [delayIssue_eq] using hr
  | drive => simpa using hr
  | idleWait | illegal | delayDone | delayTick | delayHang | advance => exact hr

/-- A run keeps what each of its steps keeps. -/
theorem run_keeps {p : State → Prop} (hkeeps : ∀ s t, p s → step s = .next t → p t) {k : Nat} {s t : State}
    (hs : p s) (h : core.run k s = .next t) : p t := by
  induction k generalizing s with
  | zero =>
    cases h
    exact hs
  | succ k ih =>
    cases hstep : step s with
    | next s' => exact ih (hkeeps s s' hs hstep) ((run_of_step core hstep k).symm.trans h)
    | fault r => simp [Host.Core.run, core, hstep] at h
    | refused r => simp [Host.Core.run, core, hstep] at h

/-- The block is ready again when a command has ended (R66). -/
theorem Ends.ready {i : Instr} {s t : State} (hs : Ready s) (hi : i.wf = true) (h : Ends i s t) : Ready t := by
  obtain ⟨hinv, hr, hp⟩ := hs
  obtain ⟨s1, k, hexec, hrun, hidle, -⟩ := h
  obtain rfl : execState i s = s1 := by simpa [exec_eq] using hexec
  have hend : t.Inv ∧ t.resetIn = none :=
    run_keeps (p := fun s => s.Inv ∧ s.resetIn = none)
      (fun s t hs hstep => ⟨stepKeepsLegal s t hs.1 hstep, (step_took hstep).resetIn_eq_none hs.2⟩)
      ⟨execState_inv hinv hi hp, by simpa using hr⟩ hrun
  exact ⟨hend.1, hend.2, hidle⟩

/-- Settles O34: the start is below NUM_STEPS, and a whole cycle adds a multiple of it. -/
theorem fullCycleReturns : Obligations.FullCycleReturns := by
  intro n s t hs hn hne hcycle h hok
  obtain ⟨-, hidx, -⟩ := moveEndsOk n s t hs hn h hok
  have hlt := hs.1.index_lt hne
  have hmod : ((s.stepIndex.toNat : Int) + n) % s.numSteps.toNat = s.stepIndex.toNat := by
    obtain rfl | rfl := hcycle
    · rw [Int.add_emod_right, Int.emod_eq_of_lt (by omega) (by omega)]
    · rw [← sub_eq_add_neg, Int.sub_emod_right, Int.emod_eq_of_lt (by omega) (by omega)]
  exact BitVec.eq_of_toNat_eq (by have := hidx hne; omega)

/-- Settles O35: the second MOVE adds modulo NUM_STEPS what the first took away. -/
theorem directionSymmetry : Obligations.DirectionSymmetry := by
  intro n s t u hs hne hlow hhigh h hok h' hok'
  have hwf (m : Int) (hm : m = n ∨ m = -n) : (Instr.move m).wf = true := by
    simp only [Instr.wf, Bool.and_eq_true, decide_eq_true_eq]
    omega
  obtain ⟨-, hidx, -, -, -, -, hnum, -⟩ := moveEndsOk (-n) s t hs (hwf _ (.inr rfl)) h hok
  obtain ⟨-, hidx', -, hdir, -⟩ :=
    moveEndsOk n t u (h.ready hs (hwf _ (.inr rfl))) (hwf _ (.inl rfl)) h' hok'
  have hlt := hs.1.index_lt hne
  have hback : (u.stepIndex.toNat : Int) = s.stepIndex.toNat := by
    rw [hidx' (by rwa [hnum]), hnum, hidx hne, Int.emod_add_emod, neg_add_cancel_right,
      Int.emod_eq_of_lt (by omega) (by omega)]
  refine ⟨BitVec.eq_of_toNat_eq (by omega), hdir.trans ?_⟩
  by_cases hneg : n < 0
  · rw [if_pos hneg, if_neg (by omega)]
  · rw [if_neg hneg, if_pos (by omega)]

end Sys2Proof.Machine

/-! SUPPORT. Proofs about the reset and the hazards (70_reset_and_hazards.md): what a reset leaves, the one hang, how
long a command takes to its end, and the statements settled from them. -/

namespace Sys2Proof.Machine

/-! ### Reset (R138 to R140) -/

/-- The block right after the power-on reset is what the reset transition makes of a block with an empty trace. -/
theorem construct_eq_applyReset (v : Variant) (n : U32) :
    State.construct v n = applyReset v n { State.construct v n with trace := [] } := rfl

theorem construct_inv (v : Variant) (n : U32) : (State.construct v n).Inv := by
  rw [construct_eq_applyReset]
  exact applyReset_inv v n _

/-- Settles O43: the power-on reset is one more reset transition. -/
theorem resetIsLegal : Obligations.ResetIsLegal := ⟨construct_inv, construct_inv _ _⟩

/-- No pin is known after a reset (R139). -/
@[simp] theorem readPin_applyReset (v : Variant) (n : U32) (s : State) (k : Nat) :
    readPin (applyReset v n s) k = .unknown := by
  cases k with
  | zero => rfl
  | succ k => simp [readPin]

/-- Settles O36: the asserted reset is the step taken, and `applyReset` has these fields. -/
theorem resetFromAnyState : Obligations.ResetFromAnyState := by
  intro s v n hr
  exact ⟨applyReset v n s, step_of_took (.reset v n hr), by simp⟩

/-- A reset abandons at most the one request that is pending (R140). -/
theorem abandonedBy_le_one (s : State) : abandonedBy s ≤ 1 := by
  unfold abandonedBy
  split <;> decide

/-- Settles O37: the fields of `applyReset` that are not the block's. -/
theorem resetKeepsOutsideWorld : Obligations.ResetKeepsOutsideWorld := by
  intro s t r hr hstep
  rw [step_of_resetIn hr] at hstep
  obtain ⟨_ | v, n⟩ := r
  · simp at hstep
  · obtain rfl : applyReset v n s = t := by simpa using hstep
    simp [abandonedBy_le_one]

/-! ### The hang (R154) -/

/-- While the pending request is never answered, all that a run does is to let late answers pass by (log 6). -/
theorem run_of_never_answered {s : State} (hr : s.resetIn = none) (hp : s.phase = .delayWait)
    (hq : s.delayPending = true) (hd : s.delayDevice = some .never) (k : Nat) :
    core.run k s = .next { s with lateDones := s.lateDones - k } := by
  induction k generalizing s with
  | zero => rfl
  | succ k ih =>
    calc core.run (k + 1) s
      _ = core.run k (waitStep s) := run_of_step core (step_of_took (.delayHang hr hp hq hd)) k
      _ = .next { s with lateDones := s.lateDones - 1 - k } := ih (s := waitStep s) hr hp hq hd
      _ = .next { s with lateDones := s.lateDones - (k + 1) } := by rw [Nat.sub_sub, Nat.add_comm 1 k]

/-- Settles O24: each step of the run waits. -/
theorem unansweredDelayHangs : Obligations.UnansweredDelayHangs := by
  intro s k h hr hp hd
  exact ⟨_, run_of_never_answered hr hp (h.pending_iff.mpr hp) hd k, rfl⟩

/-! ### How long a command takes to its end (R154, R155) -/

/-- An IDLE state is itself the end, after no step. -/
theorem EndsIn.zero {s : State} (hp : s.phase = .idle) : EndsIn 0 s s :=
  ⟨rfl, hp, fun j hj => absurd hj j.not_lt_zero⟩

/-- The end of a command is one step further from the state before. -/
theorem EndsIn.before_step {s s' t : State} {k : Nat} (h : EndsIn k s' t) (hbusy : s.phase ≠ .idle)
    (hstep : step s = .next s') : EndsIn (k + 1) s t := by
  obtain ⟨hrun, hidle, hbefore⟩ := h
  refine ⟨(run_of_step core hstep k).trans hrun, hidle, fun j hj => ?_⟩
  cases j with
  | zero => exact ⟨s, rfl, hbusy⟩
  | succ j => exact run_of_step core hstep j ▸ hbefore j (Nat.lt_of_succ_lt_succ hj)

/-- No end of a command comes after another one. -/
theorem EndsIn.le {s t t' : State} {k k' : Nat} (h : EndsIn k s t) (h' : EndsIn k' s t') : k ≤ k' := by
  obtain ⟨-, -, hbusy⟩ := h
  obtain ⟨hrun, hidle, -⟩ := h'
  by_contra hlt
  obtain ⟨u, hu, hne⟩ := hbusy k' (Nat.lt_of_not_le hlt)
  obtain rfl : u = t' := Host.Outcome.next.inj (hu.symm.trans hrun)
  exact hne hidle

/-- A command has one end, after one number of steps. -/
theorem EndsIn.unique {s t t' : State} {k k' : Nat} (h : EndsIn k s t) (h' : EndsIn k' s t') : k = k' ∧ t = t' := by
  obtain rfl : k = k' := le_antisymm (h.le h') (h'.le h)
  obtain ⟨hrun, -, -⟩ := h
  obtain ⟨hrun', -, -⟩ := h'
  exact ⟨rfl, Host.Outcome.next.inj (hrun.symm.trans hrun')⟩

/-- The command that is running in `s` ends: with OK after exactly `b` steps, otherwise after no more. -/
def EndsWithin (b : Nat) (s : State) : Prop := ∃ k t, EndsIn k s t ∧ k ≤ b ∧ (t.result = .ok → k = b)

namespace EndsWithin

variable {s s' : State} {b : Nat}

/-- What the definition says of the one end that the command has. -/
theorem bound {k : Nat} {t : State} (h : EndsWithin b s) (hend : EndsIn k s t) :
    k ≤ b ∧ (t.result = .ok → k = b) := by
  obtain ⟨k', t', hend', hbound⟩ := h
  obtain ⟨rfl, rfl⟩ := hend.unique hend'
  exact hbound

theorem of_idle (hp : s.phase = .idle) : EndsWithin 0 s := ⟨0, s, .zero hp, le_rfl, fun _ => rfl⟩

/-- A command that has failed has ended, and any bound is no less. -/
theorem of_failed (hp : s.phase = .idle) (hfail : s.result ≠ .ok) (b : Nat) : EndsWithin b s :=
  ⟨0, s, .zero hp, b.zero_le, fun hok => absurd hok hfail⟩

theorem before_step (h : EndsWithin b s') (hbusy : s.phase ≠ .idle) (hstep : step s = .next s') :
    EndsWithin (b + 1) s := by
  obtain ⟨k, t, hend, hle, hok⟩ := h
  exact ⟨k + 1, t, hend.before_step hbusy hstep, Nat.succ_le_succ hle, fun h => congrArg (· + 1) (hok h)⟩

end EndsWithin

/-! ### A row of pin writes always ends (R51, R91 to R93) -/

section
variable {s s' : State} {b : Nat} (hlen : s.pins.length = s.variant.npins) (hr : s.resetIn = none)
  (hp : s.phase = .drive)
include hr hp

/-- A failing pin write ends the command in that transition (R93). -/
theorem step_rowWritten_of_err {k : Nat} {e : PinError} (hk : k < s.variant.npins)
    (herr : pinAnswerOf (rowWritten k s) = .err e) : step (rowWritten k s) = .next (rowFailed k e s) := by
  rw [step_rowWritten hr hp hk, herr]
  rfl

/-- One pin write is one step, whatever the answer. -/
theorem EndsWithin.before_pinWrite {k : Nat} (hk : k < s.variant.npins)
    (hok : pinAnswerOf (rowWritten k s) = .ok → ∃ s', step (rowWritten k s) = .next s' ∧ EndsWithin b s') :
    EndsWithin (b + 1) (rowWritten k s) := by
  have hbusy : (rowWritten k s).phase ≠ .idle := by simp [hp]
  cases hans : pinAnswerOf (rowWritten k s) with
  | ok =>
    obtain ⟨s', hstep, hend⟩ := hok hans
    exact hend.before_step hbusy hstep
  | err e =>
    have hfailed : EndsWithin b (rowFailed k e s) := .of_failed rfl (by simp) b
    exact hfailed.before_step hbusy (step_rowWritten_of_err hr hp hk hans)

include hlen

/-- `d + 1` pins of the row are still to be written, and `s'` follows the last one's Ok. -/
theorem EndsWithin.before_pinWrites (h : EndsWithin b s')
    (hlast : ∀ k, k + 1 = s.variant.npins → pinAnswerOf (rowWritten k s) = .ok → step (rowWritten k s) = .next s')
    {j d : Nat} (hj : j + (d + 1) = s.variant.npins) : EndsWithin (b + (d + 1)) (rowWritten j s) := by
  induction d generalizing j with
  | zero => exact .before_pinWrite hr hp (by omega) fun hans => ⟨s', hlast j hj hans, h⟩
  | succ d ih =>
    exact .before_pinWrite hr hp (by omega) fun hans =>
      ⟨_, step_rowWritten_of_lt hlen hr hp (by omega) hans, ih (by omega)⟩

/-- A whole row takes NPINS steps before what follows its last Ok. -/
theorem EndsWithin.before_row (h : EndsWithin b s') (hc : s.pinCursor = 1)
    (hlast : ∀ k, k + 1 = s.variant.npins → pinAnswerOf (rowWritten k s) = .ok → step (rowWritten k s) = .next s') :
    EndsWithin (b + s.variant.npins) s := by
  obtain ⟨d, hd⟩ := Nat.exists_eq_add_of_le' (npins_pos s.variant)
  have hrow := h.before_pinWrites hlen hr hp hlast (j := 0) (d := d) (by omega)
  rwa [rowWritten_zero hc, ← hd] at hrow

/-- The row of a sequencer command is all that is left of the command (R92). -/
theorem EndsWithin.of_row (hop : s.curOp ≠ .move) (hc : s.pinCursor = 1) : EndsWithin s.variant.npins s := by
  have hdone : EndsWithin 0 (complete .ok (rowWritten s.variant.npins s)) := .of_idle rfl
  have hrow := hdone.before_row hlen hr hp hc fun k hk hans => hk ▸ step_rowWritten_of_last hlen hr hp hk hop hans
  rwa [Nat.zero_add] at hrow

end

/-- Settles O26: a sequencer command is one row, and OK or a failure ends it. -/
theorem sequencerCommandEnds : Obligations.SequencerCommandEnds := by
  rintro i s ⟨hinv, hr, -⟩ hi
  obtain ⟨op, hop, hexec⟩ := exec_of_drivesOnce hi s
  have hrow : EndsWithin s.variant.npins (startDrive op (patternWritten s.variant i) s) :=
    .of_row hinv.pins_length hr rfl hop rfl
  obtain ⟨k, t, hend, hle, -⟩ := hrow
  exact ⟨_, k, t, hexec, hle, hend⟩

/-! ### A MOVE whose delays are answered ends (R154) -/

/-- A request that is answered after `n` waits is consumed in `n + 1` steps (R103). -/
theorem EndsWithin.before_delayWait {s : State} {b n : Nat} (hr : s.resetIn = none) (hp : s.phase = .delayWait)
    (hq : s.delayPending = true) (hd : s.delayDevice = some (.after n))
    (h : ∀ late, EndsWithin b (consumeDelayDone { s with lateDones := late })) : EndsWithin (b + n + 1) s := by
  have hbusy : s.phase ≠ .idle := by simp [hp]
  induction n generalizing s with
  | zero => exact (h s.lateDones).before_step hbusy (step_of_took (.delayDone hr hp hq hd))
  | succ n ih =>
    have hwait := ih (s := waitStep { s with delayDevice := some (.after n) }) hr hp hq rfl h hbusy
    exact hwait.before_step hbusy (step_of_took (.delayTick n hr hp hq hd))

@[simp] theorem rowBegun_delayAnswers (late : Nat) (s : State) :
    (rowBegun late s).delayAnswers = s.delayAnswers.tail := by
  simp [rowBegun, advance, consumeDelayDone, delayIssue_eq]

@[simp] theorem stepDone_delayAnswers (w : State) : (stepDone w).delayAnswers = w.delayAnswers := rfl

section
variable {s : State} {b n : Nat} (hs : s.BeginsStep)
include hs

/-- The row of a physical step begins `n + 3` steps after DELAY_ISSUE when the delay is answered after `n` waits
(R102 to R104). -/
theorem EndsWithin.before_delay (hd : delayAnswerOf s = .after n) (h : ∀ late, EndsWithin b (rowBegun late s)) :
    EndsWithin (b + n + 3) s := by
  have hr : (delayIssue s).resetIn = none := by simp [delayIssue_eq, hs.resetIn]
  have hadvance (late : Nat) : EndsWithin (b + 1) (consumeDelayDone { delayIssue s with lateDones := late }) :=
    (h late).before_step (by simp [consumeDelayDone]) (step_of_took (.advance hr rfl))
  have hwait : EndsWithin (b + 1 + n + 1) (delayIssue s) :=
    .before_delayWait hr rfl rfl (by simp [delayIssue_eq, hd]) hadvance
  have hissue := hwait.before_step (by simp [hs.phase]) (step_of_took (.delayIssue hs.resetIn hs.phase))
  rwa [show b + 1 + n + 1 + 1 = b + n + 3 by omega] at hissue

/-- A physical step whose delay is answered after `n` waits takes NPINS + 3 + n steps. -/
theorem EndsWithin.before_physicalStep (hd : delayAnswerOf s = .after n)
    (h : ∀ late, EndsWithin b
      (if s.remaining = 1 then complete .ok (stepDone (rowBegun late s)) else stepDone (rowBegun late s))) :
    EndsWithin (b + (s.variant.npins + 3 + n)) s := by
  have hrow (late : Nat) : EndsWithin (b + s.variant.npins) (rowBegun late s) := by
    have hlen : (rowBegun late s).pins.length = (rowBegun late s).variant.npins := by simp [hs.pins_length]
    have hr : (rowBegun late s).resetIn = none := by simp [hs.resetIn]
    have hop : (rowBegun late s).curOp = .move := by simp [hs.curOp]
    have hrem : (rowBegun late s).remaining = s.remaining := by simp
    have hend := h late
    rw [← hrem] at hend
    simpa using hend.before_row hlen hr rfl rfl fun _ => step_rowWritten_of_last_move hlen hr rfl hop
  have hdelay := EndsWithin.before_delay hs hd hrow
  rwa [show b + s.variant.npins + n + 3 = b + (s.variant.npins + 3 + n) by omega] at hdelay

end

/-- From within a MOVE, the steps that are left: `waits` are the waits for the delays still to be requested, one for
each physical step. -/
theorem EndsWithin.of_waits {s : State} {waits : List Nat} (hs : s.BeginsStep) (hne : waits ≠ [])
    (hrem : s.remaining.toNat = waits.length) (hans : waits.map .after <+: s.delayAnswers) :
    EndsWithin (waits.length * (s.variant.npins + 3) + waits.sum) s := by
  induction waits generalizing s with
  | nil => exact absurd rfl hne
  | cons n waits ih =>
    obtain ⟨rest, hrest⟩ := hans
    have hd : delayAnswerOf s = .after n := by simp [delayAnswerOf, ← hrest]
    have htail : s.delayAnswers.tail = waits.map .after ++ rest := by simp [← hrest]
    have hnext (late : Nat) : EndsWithin (waits.length * (s.variant.npins + 3) + waits.sum)
        (if s.remaining = 1 then complete .ok (stepDone (rowBegun late s)) else stepDone (rowBegun late s)) := by
      cases waits with
      | nil =>
        rw [if_pos (BitVec.eq_of_toNat_eq hrem)]
        simpa using EndsWithin.of_idle rfl
      | cons m waits =>
        rw [List.length_cons, List.length_cons] at hrem
        rw [if_neg (by bv_omega)]
        have hrem' : (stepDone (rowBegun late s)).remaining.toNat = (m :: waits).length := by
          simp only [stepDone_remaining, rowBegun_frame, List.length_cons]
          bv_omega
        have hans' : (m :: waits).map .after <+: (stepDone (rowBegun late s)).delayAnswers := ⟨rest, by simp [htail]⟩
        simpa using ih (hs.next late) (List.cons_ne_nil m waits) hrem' hans'
    have hcount : (n :: waits).length * (s.variant.npins + 3) + (n :: waits).sum =
        waits.length * (s.variant.npins + 3) + waits.sum + (s.variant.npins + 3 + n) := by
      rw [List.length_cons, List.sum_cons]
      ring
    exact hcount ▸ EndsWithin.before_physicalStep hs hd hnext

/-- A MOVE whose delays are answered after `waits` ends within NPINS + 3 steps and a wait for each physical step. -/
theorem Ready.move_endsWithin {n : Int} {s : State} {waits : List Nat} (hs : Ready s) (hn : (Instr.move n).wf = true)
    (hlen : waits.length = n.natAbs) (hans : waits.map .after <+: s.delayAnswers) :
    EndsWithin (n.natAbs * (s.variant.npins + 3) + waits.sum) (execState (.move n) s) := by
  have hmag := moveMagnitude_toNat hn
  by_cases hzero : moveMagnitude n = 0
  · have hnil : waits = [] := List.eq_nil_of_length_eq_zero (by rw [hlen, ← hmag, hzero]; rfl)
    subst hnil
    rw [execState_move_of_eq_zero hzero, ← hlen]
    simpa using EndsWithin.of_idle rfl
  · rw [execState_move_of_ne_zero hzero, ← hlen]
    have hne : waits ≠ [] := by
      rintro rfl
      exact hzero (BitVec.eq_of_toNat_eq (hmag.trans hlen.symm))
    exact EndsWithin.of_waits (hs.moveBegun_beginsStep n) hne (hmag.trans hlen.symm) hans

/-- Answers that all come are answers after some waits. -/
theorem exists_waits_of_ne_never {as : List DelayAnswer} (h : ∀ a ∈ as, a ≠ .never) :
    ∃ waits : List Nat, waits.map .after = as := by
  have hmem : as ∈ Set.range (List.map DelayAnswer.after) := by
    rw [Set.range_list_map]
    intro a ha
    cases a with
    | after n => exact ⟨n, rfl⟩
    | never => exact absurd rfl (h _ ha)
  exact hmem

/-- Settles O32: the bound of the MOVE with the waits that its answers name. -/
theorem moveEndsWhenDelaysAnswer : Obligations.MoveEndsWhenDelaysAnswer := by
  intro n s hs hn hle hans
  obtain ⟨waits, hwaits⟩ := exists_waits_of_ne_never hans
  have hlen : waits.length = n.natAbs := by simpa [hle] using congrArg List.length hwaits
  obtain ⟨k, t, hend, -⟩ := hs.move_endsWithin hn hlen (hwaits ▸ List.take_prefix _ _)
  exact ⟨t, _, k, exec_eq _ s, hend⟩

/-- Settles O33: the bound of the MOVE with no waits. -/
theorem moveTransitionCount : Obligations.MoveTransitionCount := by
  intro n s s1 t k hs hn hle hans hexec hend
  obtain rfl : execState (.move n) s = s1 := by simpa [exec_eq] using hexec
  have htake : s.delayAnswers.take n.natAbs = (List.replicate n.natAbs 0).map .after := by
    rw [List.map_replicate]
    exact List.eq_replicate_iff.mpr ⟨by simpa using hle, hans⟩
  have hwithin := hs.move_endsWithin hn List.length_replicate (htake ▸ List.take_prefix _ _)
  obtain ⟨hbound, hok⟩ := hwithin.bound hend
  rw [List.sum_replicate, smul_zero, add_zero] at hbound hok
  exact ⟨fun h => by rw [hok h], fun _ => Nat.add_le_add_left hbound 1⟩

end Sys2Proof.Machine
